-- ==== Sys2Proof/Word.lean ====
section
/-! DEFINITION. The words of the hardware (`00_scope.md` R9): an 8-bit vector, ID or EID, a 3-bit
delivery mode, a 32-bit I/O xAPIC register, a 64-bit control register or IPI datum. -/

namespace Sys2Proof

abbrev Byte := BitVec 8
abbrev Word32 := BitVec 32
abbrev Word64 := BitVec 64
/-- Delivery mode, three bits (R130). -/
abbrev DMode := BitVec 3

/-- `INT` (R130). -/
abbrev DMode.int : DMode := 0b000#3
/-- `INT with Redirectable hint`, an RTE code only (R130). -/
abbrev DMode.intHint : DMode := 0b001#3
/-- `PMI` (R130). -/
abbrev DMode.pmi : DMode := 0b010#3
/-- `NMI` (R130). -/
abbrev DMode.nmi : DMode := 0b100#3
/-- `INIT` (R130). -/
abbrev DMode.init : DMode := 0b101#3
/-- `ExtINT` (R130). -/
abbrev DMode.extInt : DMode := 0b111#3
/-- Codes no list of the source holds (R130, R131). -/
abbrev DMode.undef011 : DMode := 0b011#3
/-- Codes no list of the source holds (R130, R131). -/
abbrev DMode.undef110 : DMode := 0b110#3

end Sys2Proof
end

