-- ==== Sys2Proof/Config.lean ====
section
/-! DEFINITION. Parameters of the platform (`00_scope.md` R7) and the free values.

The parameters are plain data: `State.plat`, and constant fields of each processor and unit, hold
them, so that a statement about every state is a statement about every platform (log 4). The free
values are opaque constants: nothing in Lean can evaluate one (log 9). -/

namespace Sys2Proof

/-- The control registers of the Local SAPIC, by name (R21 to R29, R140). -/
inductive CrName where
  | lid
  | ivr
  | tpr
  | eoi
  | irr0
  | irr1
  | irr2
  | irr3
  | itv
  | pmv
  | cmcv
  | lrr0
  | lrr1
  deriving DecidableEq, Repr

/-- `CR_INDEX(name)`: the 7-bit number of each control register (R7, R140, R145). -/
structure CrIndex where
  lid : BitVec 7
  ivr : BitVec 7
  tpr : BitVec 7
  eoi : BitVec 7
  irr0 : BitVec 7
  irr1 : BitVec 7
  irr2 : BitVec 7
  irr3 : BitVec 7
  itv : BitVec 7
  pmv : BitVec 7
  cmcv : BitVec 7
  lrr0 : BitVec 7
  lrr1 : BitVec 7
  deriving DecidableEq, Repr

/-- Platform-wide parameters of R7. -/
structure Platform where
  /-- `PIB_BASE`, default `0xFEE0_0000` (R82). -/
  pibBase : Word64
  /-- `INTA_OFFSET` inside the PIB; lost with Figure 2-7 (R83). -/
  intaOffset : Nat
  /-- `XTP_OFFSET` inside the PIB; lost with Figure 2-7 (R83). -/
  xtpOffset : Nat
  /-- `HAS_IO_REDIRECT` (R305). -/
  hasIoRedirect : Bool
  /-- `HAS_IPI_REDIRECT` (R309, R310). -/
  hasIpiRedirect : Bool
  /-- Whether the chipset that handles hinted IPIs has XTP registers (R309). -/
  ipiXtp : Bool
  /-- `HAS_8259` (R265). -/
  has8259 : Bool
  /-- `ID_BUS_BITS`: the bits of the 16-bit ID:EID that identify the bus (R7, R304). -/
  idBusBits : BitVec 16
  /-- `EXT_INT_ENTRY`: where control goes when an external interrupt is accepted (R7, R361). -/
  extIntEntry : Word64
  /-- `CR_INDEX(name)` (R7, R140). -/
  crIndex : CrIndex
  deriving DecidableEq, Repr

/-- Parameters of one processor: `BUS_OF(p)`, `HAS_LINT(p)` (R7) and `LID0(p)` (R62). -/
structure ProcParams where
  bus : Nat
  hasLint : Bool
  lid0 : BitVec 16
  deriving DecidableEq, Repr

/-- Parameters of one I/O xAPIC unit: `IOX_BASE(u)`, `MAXRTE(u)`, `VERSION(u)`,
`HAS_IRQ_ASSERT(u)`, `HAS_IO_EOI(u)` (R7). -/
structure UnitParams where
  base : Word64
  maxRte : Nat
  version : Byte
  hasIrqAssert : Bool
  hasIoEoi : Bool
  deriving DecidableEq, Repr

/-- Everything a platform fixes (R18). -/
structure Params where
  plat : Platform
  procs : List ProcParams
  units : List UnitParams
  deriving DecidableEq, Repr

/-- The default `PIB_BASE` (R82). -/
def Config.defaultPibBase : Word64 := 0xFEE00000#64
/-- `INTA_OFFSET`. PRESUMED (general knowledge that R83 notes; log 8). Unsafe. -/
def Config.defaultIntaOffset : Nat := 0x1E0000
/-- `XTP_OFFSET`. PRESUMED (general knowledge that R83 notes; log 8). Unsafe. -/
def Config.defaultXtpOffset : Nat := 0x1E0008

/-- `CR_INDEX`. PRESUMED (general knowledge that R140 gives; log 7). Unsafe for words alone. -/
def Config.defaultCrIndex : CrIndex where
  lid := 64
  ivr := 65
  tpr := 66
  eoi := 67
  irr0 := 68
  irr1 := 69
  irr2 := 70
  irr3 := 71
  itv := 72
  pmv := 73
  cmcv := 74
  lrr0 := 80
  lrr1 := 81

/-- The platform-wide parameters of `State.reset`: every optional feature present but redirection of I/O
interrupts, the ID part of ID:EID naming the bus, `EXT_INT_ENTRY` at offset `0x3000` (general knowledge
of R361, with the base at 0). DESIGN CHOICE (log 4). Unsafe only for statements about it. -/
def Config.defaultPlatform : Platform where
  pibBase := Config.defaultPibBase
  intaOffset := Config.defaultIntaOffset
  xtpOffset := Config.defaultXtpOffset
  hasIoRedirect := false
  hasIpiRedirect := true
  ipiXtp := true
  has8259 := true
  idBusBits := 0xFF00#16
  extIntEntry := 0x3000#64
  crIndex := Config.defaultCrIndex

/-- The platform of `State.reset`: two processors on bus 0, one I/O xAPIC of 24 entries and version
`0x21` (the example of R224). DESIGN CHOICE (log 4). Unsafe only for statements about `State.reset`. -/
def Config.defaultParams : Params where
  plat := Config.defaultPlatform
  procs := [{ bus := 0, hasLint := true, lid0 := 0#16 }, { bus := 0, hasLint := true, lid0 := 1#16 }]
  units := [{ base := 0xFEC00000#64, maxRte := 23, version := 0x21#8, hasIrqAssert := true,
              hasIoEoi := true }]

/-- `XTP_ENABLED(b)`: how an XTP byte says that the register is enabled; lost with Figure 2-8 (R138).
Free (log 35). -/
opaque Config.xtpEnabled : Byte → Bool
/-- `XTP_PRIO(b)`: how an XTP byte orders processors, least first; lost with Figure 2-8 (R138, R311).
Free (log 35). -/
opaque Config.xtpPrio : Byte → Nat

/-- `PMI_VECTOR_MEANING`: what firmware takes the vector of a PMI to mean, as an uninterpreted code (R7,
R382). Free (log 26). -/
opaque Config.pmiVectorMeaning : BitVec 4 → Nat

/-- The bits of a `draw` (R9): ignored bits on a read (D11), IRR0 bits 0 and 2 (D5), an EOI read (D8),
RTE bit 14 (D25). Free, for each value of `State.draws` (log 9). -/
opaque Config.freeWord : Nat → Word64
/-- A `choose` of two (R9): D27, D31, D40, D44. Free, for each value of `State.draws` (log 9). -/
opaque Config.freeBool : Nat → Bool
/-- A `choose` of several (R9): `REDIRECT_CHOICE` (R305), the bus of a message no processor's LID
matches (R304). Free, for each value of `State.draws` (log 9). -/
opaque Config.freeNat : Nat → Nat
/-- `env_8259_inta()`: the vector the external controller answers an INTA cycle with (R265, D33).
Free, for each value of `State.draws` (log 9). -/
opaque Config.freeInta : Nat → Byte

end Sys2Proof
end

