-- ==== Sys2Proof/Syntax.lean ====
section
/-! DEFINITION. One constructor per row of spec/opcode_table.json (`30_encoding.md` R145). `p` is the
processor whose software agent issues an operation, `u` an I/O xAPIC unit, `n` an entry of its
Redirection Table, `a` a physical address, `q` the processor that receives a message. -/

namespace Sys2Proof

/-- What a message carries beside its delivery mode (R52): destination, hint, vector, trigger. -/
structure MsgBody where
  id : Byte
  eid : Byte
  h : Bool
  vector : Byte
  t : Bool
  deriving DecidableEq, Repr

/-- An interrupt message (R52). -/
structure Msg where
  id : Byte
  eid : Byte
  h : Bool
  dm : DMode
  vector : Byte
  t : Bool
  deriving DecidableEq, Repr

/-- The message of delivery mode `dm` with the given body. -/
def MsgBody.msg (b : MsgBody) (dm : DMode) : Msg :=
  { id := b.id, eid := b.eid, h := b.h, dm := dm, vector := b.vector, t := b.t }

/-- A message without its delivery mode. -/
def Msg.body (m : Msg) : MsgBody :=
  { id := m.id, eid := m.eid, h := m.h, vector := m.vector, t := m.t }

inductive Instr where
  -- Local SAPIC control registers (R160 to R183)
  | movFromLid (p : Nat)
  | movToLid (p : Nat) (w : Word64)
  | movFromIrr0 (p : Nat)
  | movFromIrr1 (p : Nat)
  | movFromIrr2 (p : Nat)
  | movFromIrr3 (p : Nat)
  | movToIrr0 (p : Nat) (w : Word64)
  | movToIrr1 (p : Nat) (w : Word64)
  | movToIrr2 (p : Nat) (w : Word64)
  | movToIrr3 (p : Nat) (w : Word64)
  | movFromIvr (p : Nat)
  | movToIvr (p : Nat) (w : Word64)
  | movToEoi (p : Nat) (w : Word64)
  | movFromEoi (p : Nat)
  | movFromTpr (p : Nat)
  | movToTpr (p : Nat) (w : Word64)
  | movFromItv (p : Nat)
  | movToItv (p : Nat) (w : Word64)
  | movFromPmv (p : Nat)
  | movToPmv (p : Nat) (w : Word64)
  | movFromCmcv (p : Nat)
  | movToCmcv (p : Nat) (w : Word64)
  | movFromLrr0 (p : Nat)
  | movToLrr0 (p : Nat) (w : Word64)
  | movFromLrr1 (p : Nat)
  | movToLrr1 (p : Nat) (w : Word64)
  -- serialization, PSR bits, return (R184 to R189)
  | srlzD (p : Nat)
  | ssmI (p : Nat)
  | rsmI (p : Nat)
  | ssmIc (p : Nat)
  | rfi (p : Nat)
  -- Processor Interrupt Block (R260 to R266); `n` is a width in bytes
  | ipiSt8 (p : Nat) (a : Word64) (d : Word64)
  | ipiStBad (p : Nat) (a : Word64) (n : Nat) (d : Word64)
  | ipiLd (p : Nat) (a : Word64) (n : Nat)
  | xtpSt1 (p : Nat) (a : Word64) (b : Byte)
  | intaLd1 (p : Nat) (a : Word64)
  | pibUndef (p : Nat) (a : Word64) (n : Nat) (store : Bool) (d : Word64)
  -- I/O xAPIC (R220 to R233)
  | ioxSelSt4 (p u : Nat) (w : Word32)
  | ioxSelLd4 (p u : Nat)
  | ioxIrqaSt4 (p u : Nat) (w : Word32)
  | ioxEoiSt4 (p u : Nat) (w : Word32)
  | ioxWinLd4Ver (p u : Nat)
  | ioxWinSt4Ver (p u : Nat) (w : Word32)
  | ioxWinLd4Rtelo (p u n : Nat)
  | ioxWinSt4Rtelo (p u n : Nat) (w : Word32)
  | ioxWinLd4Rtehi (p u n : Nat)
  | ioxWinSt4Rtehi (p u n : Nat) (w : Word32)
  | ioxWinLd4Undef (p u : Nat) (x : Byte)
  | ioxWinSt4Undef (p u : Nat) (x : Byte) (w : Word32)
  -- receipt of a message by processor `q` (R312, R315 to R320)
  | msgInt (q : Nat) (m : MsgBody)
  | msgPmi (q : Nat) (m : MsgBody)
  | msgNmi (q : Nat) (m : MsgBody)
  | msgInit (q : Nat) (m : MsgBody)
  | msgExtint (q : Nat) (m : MsgBody)
  | msgUndef001 (q : Nat) (m : MsgBody)
  | msgUndef011 (q : Nat) (m : MsgBody)
  | msgUndef110 (q : Nat) (m : MsgBody)
  deriving DecidableEq, Repr

end Sys2Proof
end

