-- ==== Sys2Proof/WellFormed.lean ====
section
/-! DEFINITION. Well-formed operations: those that have an operation word (log 1) on a platform, whose
addresses and control-register numbers are the keys of R145. The machine itself runs every operation,
well-formed or not, against the addresses of its own platform. -/

namespace Sys2Proof

/-- There are at most 65536 processors (R7, R400), and the operation word numbers a unit in 16 bits. -/
def indexOk (i : Nat) : Bool := decide (i < 65536)

/-- There are at most 120 entries (R46). -/
def entryOk (n : Nat) : Bool := decide (n < 120)

/-- A width in bytes fits its word. -/
def widthOk (n : Nat) : Bool := decide (n < 65536)

/-- In the Interrupt Delivery Area (R83 (a)). -/
def Platform.inDeliveryArea (c : Platform) (a : Word64) : Bool :=
  decide (c.pibBase.toNat ≤ a.toNat) && decide (a.toNat < c.pibBase.toNat + 0x100000)

/-- In the upper 1 MB of the PIB (R83). -/
def Platform.inUpperPib (c : Platform) (a : Word64) : Bool :=
  decide (c.pibBase.toNat + 0x100000 ≤ a.toNat) && decide (a.toNat < c.pibBase.toNat + 0x200000)

/-- 8-byte aligned (R92). -/
def aligned8 (a : Word64) : Bool := a.extractLsb' 0 3 == 0#3

/-- The address of the XTP byte (R83 (b)). -/
def Platform.xtpAddress (c : Platform) : Word64 := c.pibBase + BitVec.ofNat 64 c.xtpOffset

/-- The address of the INTA byte (R83 (c)). -/
def Platform.intaAddress (c : Platform) : Word64 := c.pibBase + BitVec.ofNat 64 c.intaOffset

/-- An internal index that is the index of no register on any unit (R127, R231). -/
def undefIndex (x : Byte) : Bool := decide (x.toNat < 16) && !(x == 1#8)

/-- The operation has words on platform `c`. -/
def Instr.wellFormedAt (c : Platform) : Instr → Bool
  | .movFromLid p => indexOk p
  | .movToLid p _ => indexOk p
  | .movFromIrr0 p => indexOk p
  | .movFromIrr1 p => indexOk p
  | .movFromIrr2 p => indexOk p
  | .movFromIrr3 p => indexOk p
  | .movToIrr0 p _ => indexOk p
  | .movToIrr1 p _ => indexOk p
  | .movToIrr2 p _ => indexOk p
  | .movToIrr3 p _ => indexOk p
  | .movFromIvr p => indexOk p
  | .movToIvr p _ => indexOk p
  | .movToEoi p _ => indexOk p
  | .movFromEoi p => indexOk p
  | .movFromTpr p => indexOk p
  | .movToTpr p _ => indexOk p
  | .movFromItv p => indexOk p
  | .movToItv p _ => indexOk p
  | .movFromPmv p => indexOk p
  | .movToPmv p _ => indexOk p
  | .movFromCmcv p => indexOk p
  | .movToCmcv p _ => indexOk p
  | .movFromLrr0 p => indexOk p
  | .movToLrr0 p _ => indexOk p
  | .movFromLrr1 p => indexOk p
  | .movToLrr1 p _ => indexOk p
  | .srlzD p => indexOk p
  | .ssmI p => indexOk p
  | .rsmI p => indexOk p
  | .ssmIc p => indexOk p
  | .rfi p => indexOk p
  | .ipiSt8 p a _ => indexOk p && c.inDeliveryArea a && aligned8 a
  | .ipiStBad p a n _ => indexOk p && widthOk n && c.inDeliveryArea a && !(n == 8 && aligned8 a)
  | .ipiLd p a n => indexOk p && widthOk n && c.inDeliveryArea a
  | .xtpSt1 p a _ => indexOk p && a == c.xtpAddress
  | .intaLd1 p a => indexOk p && a == c.intaAddress
  | .pibUndef p a n store d =>
    indexOk p && widthOk n && c.inUpperPib a &&
      (if store then !(n == 1 && a == c.xtpAddress) else !(n == 1 && a == c.intaAddress) && d == 0)
  | .ioxSelSt4 p u _ => indexOk p && indexOk u
  | .ioxSelLd4 p u => indexOk p && indexOk u
  | .ioxIrqaSt4 p u _ => indexOk p && indexOk u
  | .ioxEoiSt4 p u _ => indexOk p && indexOk u
  | .ioxWinLd4Ver p u => indexOk p && indexOk u
  | .ioxWinSt4Ver p u _ => indexOk p && indexOk u
  | .ioxWinLd4Rtelo p u n => indexOk p && indexOk u && entryOk n
  | .ioxWinSt4Rtelo p u n _ => indexOk p && indexOk u && entryOk n
  | .ioxWinLd4Rtehi p u n => indexOk p && indexOk u && entryOk n
  | .ioxWinSt4Rtehi p u n _ => indexOk p && indexOk u && entryOk n
  | .ioxWinLd4Undef p u x => indexOk p && indexOk u && undefIndex x
  | .ioxWinSt4Undef p u x _ => indexOk p && indexOk u && undefIndex x
  | .msgInt q _ => indexOk q
  | .msgPmi q _ => indexOk q
  | .msgNmi q _ => indexOk q
  | .msgInit q _ => indexOk q
  | .msgExtint q _ => indexOk q
  | .msgUndef001 q _ => indexOk q
  | .msgUndef011 q _ => indexOk q
  | .msgUndef110 q _ => indexOk q

/-- The operation has words on the default platform, whose keys are those of spec/opcode_table.json. -/
def Instr.wellFormed (i : Instr) : Bool := i.wellFormedAt Config.defaultPlatform

end Sys2Proof
end

