-- ==== Sys2Proof/Decode.lean ====
section
/-! DEFINITION. The operation word, its decoder and its encoder.

The source has no instruction bits (`30_encoding.md` R120): an operation is named by a *format* and,
inside the format, by the key that spec/opcode_table.json matches (R145). The model spells it as six
64-bit words, lowest address first: key, datum, format number, width of the access in bytes,
processor, unit. DESIGN CHOICE (log 1), safe: no rule depends on the spelling.

| format | key | datum | width |
|---|---|---|---|
| `CR_RD`, `CR_WR` | `CR_INDEX` of the platform (R140; log 7) | `w` of a write | 8 |
| `PSR` | 0 `rsm.i`, 2 `ssm.i`, 3 `ssm.ic` | 0 | 0 |
| `SER`, `RET` | 0 | 0 | 0 |
| `PIB_ST8`, `PIB_ST1`, `PIB_LD`, `PIB_LD1` | physical address in the platform's PIB | datum of a store | as issued |
| `IOX_LD4`, `IOX_ST4` | offset in the unit's window | `w` of a store | 4 |
| `IOX_WIN_LD`, `IOX_WIN_ST` | internal index | `w` of a store | 4 |
| `MSG` | message data: vector 7:0, mode 10:8, trigger 15 (R136) | ID 19:12, EID 11:4, hint 3 (R133) | 0 |
-/

namespace Sys2Proof

/-- Why words are no operation. -/
inductive DecodeError where
  /-- Not six words. -/
  | wrongLength
  /-- The format number is none of R145's formats. -/
  | unknownFormat
  /-- The processor or unit number does not fit 16 bits. -/
  | badIndex
  /-- The width is not that of the format. -/
  | badWidth
  /-- No control register has this number (R140). -/
  | unknownControlRegister
  /-- No operation of format `PSR` has this key. -/
  | unknownPsrOperation
  /-- The address is not one of the format's (R83). -/
  | badAddress
  /-- No row of the table has this offset (R87). -/
  | badOffset
  /-- A word or a bit that the operation does not use is not zero. -/
  | strayBits
  deriving DecidableEq, Repr

/-- Format numbers (log 1). -/
def fmtCrRd : Nat := 1
def fmtCrWr : Nat := 2
def fmtPsr : Nat := 3
def fmtSer : Nat := 4
def fmtRet : Nat := 5
def fmtPibSt8 : Nat := 6
def fmtPibLd : Nat := 7
def fmtPibSt1 : Nat := 8
def fmtPibLd1 : Nat := 9
def fmtIoxLd4 : Nat := 10
def fmtIoxSt4 : Nat := 11
def fmtIoxWinLd : Nat := 12
def fmtIoxWinSt : Nat := 13
def fmtMsg : Nat := 14

/-- `x` if the condition holds, else the error. -/
def need (c : Bool) (e : DecodeError) (x : Except DecodeError Instr) : Except DecodeError Instr :=
  if c then x else .error e

/-- The names of the control registers (R140). -/
def CrName.all : List CrName :=
  [.lid, .ivr, .tpr, .eoi, .irr0, .irr1, .irr2, .irr3, .itv, .pmv, .cmcv, .lrr0, .lrr1]

/-- `CR_INDEX(name)`. -/
def CrIndex.num (c : CrIndex) : CrName → BitVec 7
  | .lid => c.lid
  | .ivr => c.ivr
  | .tpr => c.tpr
  | .eoi => c.eoi
  | .irr0 => c.irr0
  | .irr1 => c.irr1
  | .irr2 => c.irr2
  | .irr3 => c.irr3
  | .itv => c.itv
  | .pmv => c.pmv
  | .cmcv => c.cmcv
  | .lrr0 => c.lrr0
  | .lrr1 => c.lrr1

/-- The register with a number, if there is one. -/
def CrIndex.find (c : CrIndex) (k : Nat) : Option CrName :=
  CrName.all.find? fun x => (c.num x).toNat == k

/-- Different registers have different numbers. -/
def CrIndex.Distinct (c : CrIndex) : Prop := ∀ x y : CrName, c.num x = c.num y → x = y

/-- The read of a register. -/
def crRead (p : Nat) : CrName → Instr
  | .lid => .movFromLid p
  | .ivr => .movFromIvr p
  | .tpr => .movFromTpr p
  | .eoi => .movFromEoi p
  | .irr0 => .movFromIrr0 p
  | .irr1 => .movFromIrr1 p
  | .irr2 => .movFromIrr2 p
  | .irr3 => .movFromIrr3 p
  | .itv => .movFromItv p
  | .pmv => .movFromPmv p
  | .cmcv => .movFromCmcv p
  | .lrr0 => .movFromLrr0 p
  | .lrr1 => .movFromLrr1 p

/-- The write of a register. -/
def crWrite (p : Nat) (w : Word64) : CrName → Instr
  | .lid => .movToLid p w
  | .ivr => .movToIvr p w
  | .tpr => .movToTpr p w
  | .eoi => .movToEoi p w
  | .irr0 => .movToIrr0 p w
  | .irr1 => .movToIrr1 p w
  | .irr2 => .movToIrr2 p w
  | .irr3 => .movToIrr3 p w
  | .itv => .movToItv p w
  | .pmv => .movToPmv p w
  | .cmcv => .movToCmcv p w
  | .lrr0 => .movToLrr0 p w
  | .lrr1 => .movToLrr1 p w

/-- The operation on the control register with number `k` (R140). -/
def decodeCr (c : CrIndex) (k : Nat) (f : CrName → Instr) : Except DecodeError Instr :=
  match c.find k with
  | some x => .ok (f x)
  | none => .error .unknownControlRegister

/-- PSR-bit operations (R185 to R187). -/
def decodePsr (k p : Nat) : Except DecodeError Instr :=
  match k with
  | 0 => .ok (.rsmI p)
  | 2 => .ok (.ssmI p)
  | 3 => .ok (.ssmIc p)
  | _ => .error .unknownPsrOperation

/-- Format `PIB_ST8`: a store in the delivery area, well formed (R261) or not (R262), or a store to the
upper 1 MB that is not the XTP store (R266). -/
def decodePibSt8 (c : Platform) (a d : Word64) (n p : Nat) : Except DecodeError Instr :=
  if c.inDeliveryArea a then
    if n == 8 && aligned8 a then .ok (.ipiSt8 p a d) else .ok (.ipiStBad p a n d)
  else if c.inUpperPib a then need (!(n == 1 && a == c.xtpAddress)) .badAddress (.ok (.pibUndef p a n true d))
  else .error .badAddress

/-- Format `PIB_LD`: a load from the delivery area (R263), or one from the upper 1 MB that is not the
INTA load (R266). -/
def decodePibLd (c : Platform) (a d : Word64) (n p : Nat) : Except DecodeError Instr :=
  need (d == 0) .strayBits <|
    if c.inDeliveryArea a then .ok (.ipiLd p a n)
    else if c.inUpperPib a then
      need (!(n == 1 && a == c.intaAddress)) .badAddress (.ok (.pibUndef p a n false 0))
    else .error .badAddress

/-- Format `IOX_LD4`, by offset (R87). -/
def decodeIoxLd4 (k p u : Nat) : Except DecodeError Instr :=
  match k with
  | 0x00 => .ok (.ioxSelLd4 p u)
  | _ => .error .badOffset

/-- Format `IOX_ST4`, by offset (R87). -/
def decodeIoxSt4 (k p u : Nat) (w : Word32) : Except DecodeError Instr :=
  match k with
  | 0x00 => .ok (.ioxSelSt4 p u w)
  | 0x20 => .ok (.ioxIrqaSt4 p u w)
  | 0x40 => .ok (.ioxEoiSt4 p u w)
  | _ => .error .badOffset

/-- Format `IOX_WIN_LD`, by internal index: `0x10 + 2n` and `0x11 + 2n` are the halves of entry `n`
(R127). Whether the unit has entry `n` is seen when the access happens (R231). -/
def decodeIoxWinLd (x p u : Nat) : Instr :=
  if x = 1 then .ioxWinLd4Ver p u
  else if x < 16 then .ioxWinLd4Undef p u (BitVec.ofNat 8 x)
  else if x % 2 = 0 then .ioxWinLd4Rtelo p u ((x - 16) / 2)
  else .ioxWinLd4Rtehi p u ((x - 16) / 2)

/-- Format `IOX_WIN_ST`, by internal index (R127). -/
def decodeIoxWinSt (x p u : Nat) (w : Word32) : Instr :=
  if x = 1 then .ioxWinSt4Ver p u w
  else if x < 16 then .ioxWinSt4Undef p u (BitVec.ofNat 8 x) w
  else if x % 2 = 0 then .ioxWinSt4Rtelo p u ((x - 16) / 2) w
  else .ioxWinSt4Rtehi p u ((x - 16) / 2) w

/-- The body a message's data and address spell (R133, R136, R137). -/
def decodeMsgBody (key datum : Word64) : MsgBody :=
  { id := datum.extractLsb' 12 8, eid := datum.extractLsb' 4 8, h := datum.getLsbD 3,
    vector := key.extractLsb' 0 8, t := key.getLsbD 15 }

/-- The data word of a message (R136). -/
def msgKey (dm : DMode) (m : MsgBody) : Word64 :=
  (0#48 ++ BitVec.ofBool m.t ++ 0#4 ++ dm ++ m.vector : BitVec 64)

/-- The address word of a message, relative to the delivery area (R133). -/
def msgDatum (m : MsgBody) : Word64 :=
  (0#44 ++ m.id ++ m.eid ++ BitVec.ofBool m.h ++ 0#3 : BitVec 64)

/-- Format `MSG`, by the mode at bits 10:8 of the data (R145). -/
def decodeMsg (key datum : Word64) (q : Nat) : Except DecodeError Instr :=
  let m := decodeMsgBody key datum
  let dm : DMode := key.extractLsb' 8 3
  need (key == msgKey dm m && datum == msgDatum m) .strayBits <|
    match dm.toNat with
    | 0 => .ok (.msgInt q m)
    | 1 => .ok (.msgUndef001 q m)
    | 2 => .ok (.msgPmi q m)
    | 3 => .ok (.msgUndef011 q m)
    | 4 => .ok (.msgNmi q m)
    | 5 => .ok (.msgInit q m)
    | 6 => .ok (.msgUndef110 q m)
    | _ => .ok (.msgExtint q m)

/-- The operation of one format, on platform `c`. -/
def decodeFormat (c : Platform) (fmt : Nat) (key datum : Word64) (n p u : Nat) : Except DecodeError Instr :=
  if fmt = fmtCrRd then
    need (datum == 0 && u == 0) .strayBits (need (n == 8) .badWidth (decodeCr c.crIndex key.toNat (crRead p)))
  else if fmt = fmtCrWr then
    need (u == 0) .strayBits (need (n == 8) .badWidth (decodeCr c.crIndex key.toNat (crWrite p datum)))
  else if fmt = fmtPsr then
    need (datum == 0 && u == 0) .strayBits (need (n == 0) .badWidth (decodePsr key.toNat p))
  else if fmt = fmtSer then
    need (key == 0 && datum == 0 && u == 0) .strayBits (need (n == 0) .badWidth (.ok (.srlzD p)))
  else if fmt = fmtRet then
    need (key == 0 && datum == 0 && u == 0) .strayBits (need (n == 0) .badWidth (.ok (.rfi p)))
  else if fmt = fmtPibSt8 then need (u == 0) .strayBits (decodePibSt8 c key datum n p)
  else if fmt = fmtPibLd then need (u == 0) .strayBits (decodePibLd c key datum n p)
  else if fmt = fmtPibSt1 then
    need (u == 0 && datum == (datum.setWidth 8).setWidth 64) .strayBits <|
      need (n == 1) .badWidth <|
        need (key == c.xtpAddress) .badAddress (.ok (.xtpSt1 p key (datum.setWidth 8)))
  else if fmt = fmtPibLd1 then
    need (u == 0 && datum == 0) .strayBits <|
      need (n == 1) .badWidth <| need (key == c.intaAddress) .badAddress (.ok (.intaLd1 p key))
  else if fmt = fmtIoxLd4 then
    need (datum == 0) .strayBits (need (n == 4) .badWidth (decodeIoxLd4 key.toNat p u))
  else if fmt = fmtIoxSt4 then
    need (datum == (datum.setWidth 32).setWidth 64) .strayBits <|
      need (n == 4) .badWidth (decodeIoxSt4 key.toNat p u (datum.setWidth 32))
  else if fmt = fmtIoxWinLd then
    need (datum == 0) .strayBits <| need (n == 4) .badWidth <|
      need (decide (key.toNat < 256)) .badOffset (.ok (decodeIoxWinLd key.toNat p u))
  else if fmt = fmtIoxWinSt then
    need (datum == (datum.setWidth 32).setWidth 64) .strayBits <| need (n == 4) .badWidth <|
      need (decide (key.toNat < 256)) .badOffset
        (.ok (decodeIoxWinSt key.toNat p u (datum.setWidth 32)))
  else if fmt = fmtMsg then
    need (u == 0) .strayBits (need (n == 0) .badWidth (decodeMsg key datum p))
  else .error .unknownFormat

/-- The operation that a list of words spells on platform `c`, or why it spells none. Total. -/
def decodeAt (c : Platform) : List Word64 → Except DecodeError Instr
  | [key, datum, fmt, n, p, u] =>
    need (indexOk p.toNat && indexOk u.toNat && widthOk n.toNat) .badIndex
      (decodeFormat c fmt.toNat key datum n.toNat p.toNat u.toNat)
  | _ => .error .wrongLength

/-- The operation that words spell on the default platform (log 4), whose keys are the table's. -/
def decode (ws : List Word64) : Except DecodeError Instr := decodeAt Config.defaultPlatform ws

/-- Six words. -/
def opWords (fmt : Nat) (key datum : Word64) (n p u : Nat) : List Word64 :=
  [key, datum, BitVec.ofNat 64 fmt, BitVec.ofNat 64 n, BitVec.ofNat 64 p, BitVec.ofNat 64 u]

def crRdWords (k : BitVec 7) (p : Nat) : List Word64 := opWords fmtCrRd (k.setWidth 64) 0 8 p 0

def crWrWords (k : BitVec 7) (p : Nat) (w : Word64) : List Word64 :=
  opWords fmtCrWr (k.setWidth 64) w 8 p 0

def psrWords (k p : Nat) : List Word64 := opWords fmtPsr (BitVec.ofNat 64 k) 0 0 p 0

def ioxLdWords (k p u : Nat) : List Word64 := opWords fmtIoxLd4 (BitVec.ofNat 64 k) 0 4 p u

def ioxStWords (k p u : Nat) (w : Word32) : List Word64 :=
  opWords fmtIoxSt4 (BitVec.ofNat 64 k) (w.setWidth 64) 4 p u

def winLdWords (x p u : Nat) : List Word64 := opWords fmtIoxWinLd (BitVec.ofNat 64 x) 0 4 p u

def winStWords (x p u : Nat) (w : Word32) : List Word64 :=
  opWords fmtIoxWinSt (BitVec.ofNat 64 x) (w.setWidth 64) 4 p u

def msgWords (dm : DMode) (q : Nat) (m : MsgBody) : List Word64 :=
  opWords fmtMsg (msgKey dm m) (msgDatum m) 0 q 0

/-- The words of an operation on platform `c`. -/
def encodeAt (c : Platform) : Instr → List Word64
  | .movFromLid p => crRdWords c.crIndex.lid p
  | .movToLid p w => crWrWords c.crIndex.lid p w
  | .movFromIrr0 p => crRdWords c.crIndex.irr0 p
  | .movFromIrr1 p => crRdWords c.crIndex.irr1 p
  | .movFromIrr2 p => crRdWords c.crIndex.irr2 p
  | .movFromIrr3 p => crRdWords c.crIndex.irr3 p
  | .movToIrr0 p w => crWrWords c.crIndex.irr0 p w
  | .movToIrr1 p w => crWrWords c.crIndex.irr1 p w
  | .movToIrr2 p w => crWrWords c.crIndex.irr2 p w
  | .movToIrr3 p w => crWrWords c.crIndex.irr3 p w
  | .movFromIvr p => crRdWords c.crIndex.ivr p
  | .movToIvr p w => crWrWords c.crIndex.ivr p w
  | .movToEoi p w => crWrWords c.crIndex.eoi p w
  | .movFromEoi p => crRdWords c.crIndex.eoi p
  | .movFromTpr p => crRdWords c.crIndex.tpr p
  | .movToTpr p w => crWrWords c.crIndex.tpr p w
  | .movFromItv p => crRdWords c.crIndex.itv p
  | .movToItv p w => crWrWords c.crIndex.itv p w
  | .movFromPmv p => crRdWords c.crIndex.pmv p
  | .movToPmv p w => crWrWords c.crIndex.pmv p w
  | .movFromCmcv p => crRdWords c.crIndex.cmcv p
  | .movToCmcv p w => crWrWords c.crIndex.cmcv p w
  | .movFromLrr0 p => crRdWords c.crIndex.lrr0 p
  | .movToLrr0 p w => crWrWords c.crIndex.lrr0 p w
  | .movFromLrr1 p => crRdWords c.crIndex.lrr1 p
  | .movToLrr1 p w => crWrWords c.crIndex.lrr1 p w
  | .srlzD p => opWords fmtSer 0 0 0 p 0
  | .ssmI p => psrWords 2 p
  | .rsmI p => psrWords 0 p
  | .ssmIc p => psrWords 3 p
  | .rfi p => opWords fmtRet 0 0 0 p 0
  | .ipiSt8 p a d => opWords fmtPibSt8 a d 8 p 0
  | .ipiStBad p a n d => opWords fmtPibSt8 a d n p 0
  | .ipiLd p a n => opWords fmtPibLd a 0 n p 0
  | .xtpSt1 p a b => opWords fmtPibSt1 a (b.setWidth 64) 1 p 0
  | .intaLd1 p a => opWords fmtPibLd1 a 0 1 p 0
  | .pibUndef p a n store d => opWords (if store then fmtPibSt8 else fmtPibLd) a d n p 0
  | .ioxSelSt4 p u w => ioxStWords 0x00 p u w
  | .ioxSelLd4 p u => ioxLdWords 0x00 p u
  | .ioxIrqaSt4 p u w => ioxStWords 0x20 p u w
  | .ioxEoiSt4 p u w => ioxStWords 0x40 p u w
  | .ioxWinLd4Ver p u => winLdWords 1 p u
  | .ioxWinSt4Ver p u w => winStWords 1 p u w
  | .ioxWinLd4Rtelo p u n => winLdWords (16 + 2 * n) p u
  | .ioxWinSt4Rtelo p u n w => winStWords (16 + 2 * n) p u w
  | .ioxWinLd4Rtehi p u n => winLdWords (17 + 2 * n) p u
  | .ioxWinSt4Rtehi p u n w => winStWords (17 + 2 * n) p u w
  | .ioxWinLd4Undef p u x => winLdWords x.toNat p u
  | .ioxWinSt4Undef p u x w => winStWords x.toNat p u w
  | .msgInt q m => msgWords DMode.int q m
  | .msgPmi q m => msgWords DMode.pmi q m
  | .msgNmi q m => msgWords DMode.nmi q m
  | .msgInit q m => msgWords DMode.init q m
  | .msgExtint q m => msgWords DMode.extInt q m
  | .msgUndef001 q m => msgWords DMode.intHint q m
  | .msgUndef011 q m => msgWords DMode.undef011 q m
  | .msgUndef110 q m => msgWords DMode.undef110 q m

/-- The words of an operation on the default platform (log 4). -/
def encode (i : Instr) : List Word64 := encodeAt Config.defaultPlatform i

/-- The words of a table row's key, its format told by the key's size and value, for processor 0 and
unit 0 with every datum zero. Rows of different formats share keys (R145: `mov.from.lid` and
`mov.to.lid` are both `0x40`), and a key alone cannot tell them apart: of such rows the first format
below is taken (log 33). -/
def tableWords (nbits w : Nat) : List Word64 :=
  let key := BitVec.ofNat 64 w
  if nbits ≤ 8 then
    if w = 0 then ioxStWords 0 0 0 0
    else if w = 2 then psrWords 2 0
    else if w = 0x20 then ioxStWords 0x20 0 0 0
    else if 0x40 ≤ w ∧ w ≤ 0x51 then crRdWords (BitVec.ofNat 7 w) 0
    else winLdWords w 0 0
  else if nbits ≤ 16 then opWords fmtMsg key 0 0 0 0
  else if key == Config.defaultPlatform.xtpAddress then opWords fmtPibSt1 key 0 1 0 0
  else if key == Config.defaultPlatform.intaAddress then opWords fmtPibLd1 key 0 1 0 0
  else if Config.defaultPlatform.inDeliveryArea key then opWords fmtPibSt8 key 0 8 0 0
  else opWords fmtPibLd key 0 8 0 0

/-- The instruction that the decoder reads from a table row's bits. -/
def decodeTableWord (nbits w : Nat) : Option Instr :=
  match decode (tableWords nbits w) with
  | .ok i => some i
  | .error _ => none

end Sys2Proof
end

