-- ==== Sys2Proof/Machine/State.lean ====
section
/-! DEFINITION. The state of the machine (`10_state.md` R20 to R65), the moves of its agents
(`00_scope.md` R17), the reasons a step can stop, and the state after reset. -/

namespace Sys2Proof.Machine

/-- A serializable element (R33): the architected value, which a write sets, and the effective value,
which every hardware decision and every software read uses. -/
structure Ser (α : Type) where
  arch : α
  eff : α
  deriving DecidableEq, Repr

/-- The Local ID register's fields (R21). -/
structure Lid where
  id : Byte
  eid : Byte
  deriving DecidableEq, Repr

/-- The Task Priority Register's fields (R27). -/
structure Tpr where
  mic : BitVec 4
  mmi : Bool
  deriving DecidableEq, Repr

/-- A Local Vector Register's fields: ITV, PMV, CMCV (R28). -/
structure Lvr where
  vector : Byte
  m : Bool
  deriving DecidableEq, Repr

/-- A Local Redirection Register's fields (R29). -/
structure Lrr where
  vector : Byte
  dm : DMode
  ipp : Bool
  tm : Bool
  m : Bool
  deriving DecidableEq, Repr

/-- The two PSR bits the source names, as IPSR holds them (R32). -/
structure PsrBits where
  i : Bool
  ic : Bool
  deriving DecidableEq, Repr

/-- An input pin: the level now and the level last sampled; high is true (R35, R49). -/
structure Pin where
  level : Bool
  prev : Bool
  deriving DecidableEq, Repr

/-- The two LINT pins, served by LRR0 and LRR1 (R29, D30). -/
inductive LintPin where
  | lint0
  | lint1
  deriving DecidableEq, Repr

/-- The three dedicated pins of a processor (R35). -/
inductive DedicatedPin where
  | nmi
  | pmi
  | init
  deriving DecidableEq, Repr

/-- The named faults of the spec (R343). -/
inductive FaultName where
  /-- General Exception, reserved operand (R340). -/
  | generalException
  /-- Write to a read-only control register (R341). -/
  | illegalOperation
  deriving DecidableEq, Repr

/-- The software flow of a processor: it runs, ended as `Faulted(p, name)` (R343), or ended as
`Initialized(p)` (R383). The model's own field (log 10). -/
inductive Flow where
  | running
  | faulted (f : FaultName)
  | initialized
  deriving DecidableEq, Repr

/-- The last control transfer of a processor. There is no program counter (R37): the transfers are
events. The model's own field (log 12). -/
inductive CtlEvent where
  /-- None yet. -/
  | none
  /-- An external interrupt was accepted: control is at `EXT_INT_ENTRY`, this address (R360, R361). -/
  | extIntEntry (a : Word64)
  /-- Return from interruption: the interrupted flow goes on (R189). -/
  | resumed
  /-- A PMI with this vector, which means this to firmware, was taken (R382). -/
  | pmi (v : BitVec 4) (meaning : Nat)
  /-- An INIT was taken (R383). -/
  | init
  deriving DecidableEq, Repr

/-- The state of one processor (R21 to R36), with its XTP register in the bridge (R50). -/
structure Proc where
  /-- `BUS_OF(p)` (R7); constant. -/
  bus : Nat
  /-- `HAS_LINT(p)` (R7); constant. -/
  hasLint : Bool
  lid : Ser Lid
  /-- Bit `v` is `IRR[p][v]` (R22). -/
  irr : BitVec 256
  nmiP : Bool
  extP : Bool
  /-- Bit `v` is `INSVC[p][v]` (R24). -/
  insvc : BitVec 256
  /-- `EOIQ[p]` (R33). -/
  eoiq : Nat
  tpr : Ser Tpr
  itv : Ser Lvr
  pmv : Ser Lvr
  cmcv : Ser Lvr
  lrr0 : Ser Lrr
  lrr1 : Ser Lrr
  psrI : Ser Bool
  psrIc : Ser Bool
  ipsr : PsrBits
  /-- Bit `v` says that `v` is in `PMIP[p]` (R34). -/
  pmiP : BitVec 16
  initP : Bool
  lint0 : Pin
  lint1 : Pin
  nmiPin : Bool
  pmiPin : Bool
  initPin : Bool
  xtp : Byte
  flow : Flow
  event : CtlEvent
  /-- The value last delivered to the software agent (R36, log 11). -/
  result : Word64
  deriving DecidableEq, Repr

/-- A Redirection Table entry with its hidden bit and its pin: `RTE[u][n]`, `AWAIT[u][n]`, `PIN[u][n]`,
`PIN_PREV[u][n]` (R46 to R49). -/
structure Entry where
  vector : Byte
  dm : DMode
  s : Bool
  p : Bool
  t : Bool
  m : Bool
  id : Byte
  eid : Byte
  await : Bool
  pin : Pin
  deriving DecidableEq, Repr

/-- The state of one I/O xAPIC unit (R40 to R49). `MAXRTE(u)` is one less than the number of
entries. -/
structure IoUnit where
  /-- `IOX_BASE(u)` (R7); constant. -/
  base : Word64
  /-- `VERSION(u)` (R7); constant. -/
  version : Byte
  /-- `HAS_IRQ_ASSERT(u)` (R7); constant. -/
  hasIrqAssert : Bool
  /-- `HAS_IO_EOI(u)` (R7); constant. -/
  hasIoEoi : Bool
  sel : Byte
  entries : List Entry
  deriving DecidableEq, Repr

/-- A load or store by a software agent (R9 `MemRead`, `MemWrite`): `data` is the stored value, in its
low `8 * width` bits. -/
structure Access where
  p : Nat
  store : Bool
  cacheable : Bool
  width : Nat
  addr : Word64
  data : Word64
  deriving DecidableEq, Repr

/-- A store of ordinary memory, by a processor or a device, that is not in memory yet; `data` is in its
low `8 * width` bits. The model's own: the spec has no consistency model (R101; log 38). -/
structure PendingStore where
  addr : Nat
  width : Nat
  data : Word64
  /-- For a device's write, how many of the messages of `IOBUS` were sent before it: the others wait for
  it (R103; log 37). None for a processor's store. -/
  msgsBefore : Option Nat
  deriving DecidableEq, Repr

/-- A load of ordinary memory that processor `p` has issued and that is not performed yet (R101; log 38). -/
structure PendingLoad where
  p : Nat
  addr : Nat
  width : Nat
  deriving DecidableEq, Repr

/-- An element that a settle step brings up to date (R33). -/
inductive SerElem where
  | lid
  | tpr
  | itv
  | pmv
  | cmcv
  | lrr0
  | lrr1
  | psrI
  | psrIc
  /-- One queued EOI. -/
  | eoi
  deriving DecidableEq, Repr

/-- A move of one agent (R17). The agenda of the state says which comes next (log 2). -/
inductive Move where
  /-- An operation, or the receipt of a message, by its words (R145). -/
  | op (ws : List Word64)
  /-- A load or store by physical address (R9); the address map says which operation it is. -/
  | access (a : Access)
  /-- Receive step of processor `q` (R312). -/
  | receive (q : Nat) (m : Msg)
  /-- Settle step of one element (R33). -/
  | settle (p : Nat) (x : SerElem)
  /-- Acceptance of an external interrupt (R359, R360). -/
  | accept (p : Nat)
  /-- PMI with vector `v` taken (R382). -/
  | takePmi (p : Nat) (v : BitVec 4)
  /-- INIT taken (R383). -/
  | takeInit (p : Nat)
  /-- Sample step of a LINT pin (R325 to R328). -/
  | sampleLint (p : Nat) (k : LintPin)
  /-- Sample step of pin `n` (R291 to R299). -/
  | samplePin (u n : Nat)
  /-- Send step of entry `n` (R297). -/
  | send (u n : Nat)
  /-- The bridge takes a message from the I/O bus: pass-through or redirection (R304, R305). -/
  | bridge (m : Msg)
  /-- The chipset handles a hinted IPI on bus `b` (R309, R310). -/
  | ipiHint (b : Nat) (m : Msg)
  /-- A message no processor matches is dropped (R313). -/
  | drop (b : Nat) (m : Msg)
  /-- A device drives an I/O xAPIC pin (R333). -/
  | drivePin (u n : Nat) (level : Bool)
  /-- A device drives a LINT pin (R333). -/
  | driveLint (p : Nat) (k : LintPin) (level : Bool)
  /-- The NMI, PMI or INIT pin is driven (R330 to R332). -/
  | driveDedicated (p : Nat) (k : DedicatedPin) (level : Bool)
  /-- `timer_event(p)` (R322). -/
  | timerEvent (p : Nat)
  /-- `pmu_event(p)` (R323). -/
  | pmuEvent (p : Nat)
  /-- `cmc_event(p)` (R324). -/
  | cmcEvent (p : Nat)
  /-- A 32-bit write on the I/O bus by a device: a message (R109, R302) or data (R103). -/
  | ioBusWrite (ad data : Word32)
  /-- A write of `n` bytes of data on the I/O bus by a device (R103; log 29). -/
  | deviceData (ad : Word64) (n : Nat) (data : Word64)
  /-- The environment sends a message record on the I/O bus (R302). -/
  | deviceMsg (m : Msg)
  /-- The pending store at place `k` of `State.stores` reaches memory (R101; log 38). -/
  | land (k : Nat)
  /-- The pending load at place `k` of `State.loads` is performed: its byte `i` is what memory holds, or, if
  entry `i` of `sees` names a place of `State.stores`, that store's byte (R101; log 38). -/
  | perform (k : Nat) (sees : List (Option Nat))
  /-- A read on the I/O bus by a device (R84, R268). -/
  | ioBusRead (ad : Word32)
  /-- Software writes IPSR, as a nested handler restoring what it saved does (R189; log 28). -/
  | writeIpsr (p : Nat) (v : PsrBits)
  deriving DecidableEq, Repr

/-- Physical memory outside the devices: `(address, byte)` pairs, addresses strictly rising. An address
that is not listed has no value: nothing has written it (log 25). -/
abbrev Memory := List Host.Cell

/-- The whole machine (R20). -/
structure State where
  /-- Parameters of the platform (R7, R18); constant. -/
  plat : Platform
  procs : List Proc
  units : List IoUnit
  /-- `IOBUS` (R51), oldest first; the order says only which data writes a message waits for (R103; log 19). -/
  ioBus : List Msg
  /-- `SYSBUS[b]` for every `b` (R51): a message with the bus it is on; the order means nothing. -/
  sysBus : List (Nat × Msg)
  mem : Memory
  /-- Stores of ordinary memory, by processors and devices, not in memory yet (R101, R103; log 38). -/
  stores : List PendingStore
  /-- Loads of ordinary memory not performed yet (R101; log 38). -/
  loads : List PendingLoad
  /-- How many draws and chooses were made: the argument of the next free value (log 9). -/
  draws : Nat
  /-- The moves to come (log 2). -/
  agenda : List Move
  deriving DecidableEq, Repr

/-- The model's own stops. All are safe: the machine goes no further. -/
inductive Fault where
  /-- Raised by a move or operation that names a processor outside `Proc` (R7). Safe. -/
  | noSuchProcessor (p : Nat)
  /-- Raised by a move or operation that names a unit outside `IOX` (R7). Safe. -/
  | noSuchUnit (u : Nat)
  /-- Raised by a move that names a pin the unit or processor does not have (R46, R325). Safe. -/
  | noSuchPin
  /-- Raised by an operation of a processor whose software flow has ended (R343, R383). Safe. -/
  | flowEnded (p : Nat)
  /-- Raised by a hardware step whose condition does not hold: the spec has no such step (log 13). Safe. -/
  | notEnabled
  /-- Raised by an access or a device's data write at or above `2^63`, which R54 and R80 put outside the
  space and give no outcome: the model's choice (log 25). Safe. -/
  | noSuchAddress (a : Nat)
  /-- Raised by a load that is performed on a byte of memory that nothing has written (log 25). Safe. -/
  | unwrittenByte (a : Nat)
  deriving DecidableEq, Repr

/-- The spec's `refuse(reason)` (R9), each under its own name. All are safe: a refused run proves
nothing. -/
inductive Refusal where
  /-- Raised by an arm of `exec` that has no meaning yet. Safe. -/
  | notModelled (mnemonic : String)
  /-- Raised by the step for words that are no operation (R145). Safe. -/
  | undecodable (e : DecodeError)
  /-- EOI effect with nothing in service (R170, D7). Safe. -/
  | eoiNothingInService
  /-- Unlabelled bits of an LRR written non-zero (R181, D10). Safe. -/
  | lrrUnlabelledBits
  /-- A delivery mode that the context does not list (R131, R181, R227, R261, R302, R320, D6). Safe. -/
  | undefinedDeliveryMode
  /-- Acceptance with interrupt collection off (R360, D15). Safe. -/
  | collectionOff
  /-- Reserved field of the IPI datum non-zero (R261, D10). Safe. -/
  | ipiReservedField
  /-- Malformed store to the Interrupt Delivery Area (R262, D42). Safe. -/
  | malformedIpiStore
  /-- Load from the Interrupt Delivery Area (R263, D42). Safe. -/
  | loadFromDeliveryArea
  /-- Undefined PIB address, or another form of access to the XTP or INTA byte (R94 to R96, R266, D34). Safe. -/
  | undefinedPibAddress
  /-- A PIB operation whose address is not in the platform's PIB (R260). Safe. -/
  | notInPib
  /-- INTA with no external controller (R265). Safe. -/
  | noExternalController
  /-- Cacheable access to the PIB (R85), or to a unit's window, which the rules require to be uncacheable and
  give no outcome if it is not: the model's choice (log 39). Safe. -/
  | cacheableDeviceAccess
  /-- Partial or misaligned I/O xAPIC access (R90, D13). Safe. -/
  | partialIoxAccess
  /-- An offset of an I/O xAPIC window with no stated function (R87, R232, R233 (j)). Safe. -/
  | undefinedIoxOffset
  /-- Select value above 8 bits (R222, D23). Safe. -/
  | selectAbove8Bits
  /-- Store to the read-only Version register (R225, D24). Safe. -/
  | storeToVersion
  /-- Reserved field of an I/O xAPIC register written non-zero (R221, R227, R229, D10). Safe. -/
  | ioxReservedField
  /-- Unlabelled or constant-zero bit of an RTE written 1 (R227, D25). Safe. -/
  | rteUnlabelledBits
  /-- Undefined internal register (R231). Safe. -/
  | undefinedInternalRegister
  /-- A window operation that is not the one `SEL[u]` selects (R224 to R231; log 24). Safe. -/
  | windowSelectDiffers
  /-- IRQ Assertion Register not implemented (R232). Safe. -/
  | irqAssertAbsent
  /-- IRQ assertion semantics not in source (R232, D22). Safe. -/
  | irqAssertSemantics
  /-- I/O EOI register not implemented (R233). Safe. -/
  | ioEoiAbsent
  /-- I/O EOI datum above 8 bits (R233, D21). Safe. -/
  | ioEoiAbove8Bits
  /-- INT delivery with a vector below 0x10 (R294, R315, R325, R326). Safe. -/
  | intReservedVector
  /-- ExtINT with level trigger (R294, R328). Safe. -/
  | extIntLevel
  /-- PMI with level trigger (R294, R328). Safe. -/
  | pmiLevel
  /-- PMI vector above 0xF (R294, R318, R325). Safe. -/
  | pmiVectorAbove15
  /-- INIT with level trigger (R294, R328). Safe. -/
  | initLevel
  /-- LVR vector below 0x10 (R322). Safe. -/
  | lvrReservedVector
  /-- Two processors hold the same ID:EID when a message for it is on a bus (R314, D20). Safe. -/
  | duplicateLids
  /-- IPI with the hint and a delivery mode other than INT (R309, D43). Safe. -/
  | hintNotInt
  /-- A pin changes twice with no sample in between (R333, D37). Safe. -/
  | pulseTooShort
  /-- A store, load or device write of ordinary memory of a width or alignment the spec gives no meaning
  (R100; log 25). Safe. -/
  | memoryAccessForm
  /-- A load or store of memory that runs into an address a device claims, where there is no memory
  (R84, R260; log 25). Safe. -/
  | straddlesDevice
  /-- A device's data write one byte of which lies where a device claims, which the spec does not describe
  (R84, R260; log 29). Safe. -/
  | ioBusWriteToDevice
  /-- An I/O bus write into the PIB that is no message: misaligned, or in the upper 1 MB (R109; log 29). Safe. -/
  | malformedIoBusMessage
  deriving DecidableEq, Repr

/-- What a step, and a meaning, answers. -/
abbrev Res := Host.Outcome State Fault Refusal

def Ser.same {α : Type} (x : α) : Ser α := { arch := x, eff := x }

/-- An entry after reset: masked (R60); the rest DESIGN CHOICE zero (R61, R64; log 3). Unsafe. -/
def Entry.reset : Entry where
  vector := 0
  dm := 0
  s := false
  p := false
  t := false
  m := true
  id := 0
  eid := 0
  await := false
  pin := { level := false, prev := false }

/-- A processor after reset: the LID from the platform (R62), effective copies equal to the
architected ones (R64); the rest DESIGN CHOICE zero (R64; log 3). Unsafe. -/
def Proc.reset (c : ProcParams) : Proc where
  bus := c.bus
  hasLint := c.hasLint
  lid := Ser.same { id := c.lid0.extractLsb' 8 8, eid := c.lid0.extractLsb' 0 8 }
  irr := 0
  nmiP := false
  extP := false
  insvc := 0
  eoiq := 0
  tpr := Ser.same { mic := 0, mmi := false }
  itv := Ser.same { vector := 0, m := false }
  pmv := Ser.same { vector := 0, m := false }
  cmcv := Ser.same { vector := 0, m := false }
  lrr0 := Ser.same { vector := 0, dm := 0, ipp := false, tm := false, m := false }
  lrr1 := Ser.same { vector := 0, dm := 0, ipp := false, tm := false, m := false }
  psrI := Ser.same false
  psrIc := Ser.same false
  ipsr := { i := false, ic := false }
  pmiP := 0
  initP := false
  lint0 := { level := false, prev := false }
  lint1 := { level := false, prev := false }
  nmiPin := false
  pmiPin := false
  initPin := false
  xtp := 0
  flow := .running
  event := .none
  result := 0

/-- A unit after reset (R60, R61); `SEL` DESIGN CHOICE zero (R64; log 3). Unsafe. -/
def IoUnit.reset (c : UnitParams) : IoUnit where
  base := c.base
  version := c.version
  hasIrqAssert := c.hasIrqAssert
  hasIoEoi := c.hasIoEoi
  sel := 0
  entries := List.replicate (c.maxRte + 1) Entry.reset

/-- The state after reset of a platform (R60 to R64): every processor exists (R424), nothing is in
flight (log 3), no program is loaded (log 2). -/
def State.resetOf (c : Params) : State where
  plat := c.plat
  procs := c.procs.map Proc.reset
  units := c.units.map IoUnit.reset
  ioBus := []
  sysBus := []
  mem := []
  stores := []
  loads := []
  draws := 0
  agenda := []

/-- The state after reset of the default platform (log 4). -/
def State.reset : State := State.resetOf Config.defaultParams

end Sys2Proof.Machine
end

