-- ==== Sys2Proof/Machine/Operands.lean ====
section
/-! DEFINITION. Operand layouts: control registers (R121 to R123), Redirection Table halves and the
Version register (R124 to R126), the IPI address and datum (R133, R134), I/O bus messages (R135 to
R137). A layout lists its fields most significant first, as the tables of `30_encoding.md` do. -/

namespace Sys2Proof.Machine

/-- Bit `i` of `x` set to `b`. -/
def writeBit {n : Nat} (x : BitVec n) (i : Nat) (b : Bool) : BitVec n :=
  if b then x ||| BitVec.twoPow n i else x &&& ~~~ BitVec.twoPow n i

/-- One bit as a field. -/
def bitField (b : Bool) : BitVec 1 := BitVec.ofBool b

/-- Reserved bits of LID: 15:0 (R123; PRESUMED there, log 6). -/
def lidReserved : Word64 := 0x000000000000FFFF#64
/-- Reserved bits of TPR: 15:8 and 63:17 (R123; PRESUMED there, log 6). -/
def tprReserved : Word64 := 0xFFFFFFFFFFFEFF00#64
/-- Reserved bits of ITV, PMV, CMCV: all but 7:0 and 16 (R122; log 6). -/
def lvrReserved : Word64 := 0xFFFFFFFFFFFEFF00#64
/-- Unlabelled bits of LRR0, LRR1: 14 and 12:11 (R121, R181). -/
def lrrUnlabelled : Word64 := 0x0000000000005800#64

/-- LID as read: ignored bits 63:32 from `free` (R161). -/
def packLid (l : Lid) (free : Word64) : Word64 :=
  (free.extractLsb' 32 32 ++ l.id ++ l.eid ++ 0#16 : BitVec 64)

/-- LID as written (R162). -/
def unpackLid (w : Word64) : Lid := { id := w.extractLsb' 24 8, eid := w.extractLsb' 16 8 }

/-- TPR as read: ignored bits 3:0 from `free` (R172). -/
def packTpr (t : Tpr) (free : Word64) : Word64 :=
  (0#47 ++ bitField t.mmi ++ 0#8 ++ t.mic ++ free.extractLsb' 0 4 : BitVec 64)

/-- TPR as written (R173). -/
def unpackTpr (w : Word64) : Tpr := { mic := w.extractLsb' 4 4, mmi := w.getLsbD 16 }

/-- ITV, PMV, CMCV as read (R174, R176, R178). -/
def packLvr (l : Lvr) : Word64 := (0#47 ++ bitField l.m ++ 0#8 ++ l.vector : BitVec 64)

/-- ITV, PMV, CMCV as written (R175, R177, R179). -/
def unpackLvr (w : Word64) : Lvr := { vector := w.extractLsb' 0 8, m := w.getLsbD 16 }

/-- LRR0, LRR1 as read: ignored bits 63:17 from `free` (R180, R182). -/
def packLrr (l : Lrr) (free : Word64) : Word64 :=
  (free.extractLsb' 17 47 ++ bitField l.m ++ bitField l.tm ++ 0#1 ++ bitField l.ipp ++ 0#2 ++ l.dm ++
    l.vector : BitVec 64)

/-- LRR0, LRR1 as written (R181, R183). -/
def unpackLrr (w : Word64) : Lrr :=
  { vector := w.extractLsb' 0 8, dm := w.extractLsb' 8 3, ipp := w.getLsbD 13, tm := w.getLsbD 15,
    m := w.getLsbD 16 }

/-- IRR0 as read: bits 15:3 and 1 are 0, bits 2 and 0 from `free` (R163, D5). -/
def packIrr0 (irr : BitVec 256) (free : Word64) : Word64 :=
  (irr.extractLsb' 16 48 ++ 0#13 ++ free.extractLsb' 2 1 ++ 0#1 ++ free.extractLsb' 0 1 : BitVec 64)

/-- IRRk as read, `k` from 1 to 3: bit `j` is vector `64k + j` (R164 to R166). -/
def packIrr (irr : BitVec 256) (k : Nat) : Word64 := irr.extractLsb' (64 * k) 64

/-- Modes a processor's LRR and an IPI datum may not hold: `001`, `011`, `110` (R131). -/
def dmUndefined (dm : DMode) : Bool :=
  dm == DMode.intHint || dm == DMode.undef011 || dm == DMode.undef110

/-- Modes an RTE may not hold: `011`, `110` (R131). -/
def dmUndefinedRte (dm : DMode) : Bool := dm == DMode.undef011 || dm == DMode.undef110

/-- `MAXRTE(u)`, the number of the highest entry (R45). -/
def IoUnit.maxRte (U : IoUnit) : Nat := U.entries.length - 1

/-- The Version register (R126, R224). -/
def packVersion (U : IoUnit) : Word32 :=
  (0#8 ++ BitVec.ofNat 8 U.maxRte ++ 0#8 ++ U.version : BitVec 32)

/-- The low half of an entry as read; bit 14 from `free` (R124, R226, D25). -/
def packRteLo (E : Entry) (free : Word64) : Word32 :=
  (0#15 ++ bitField E.m ++ bitField E.t ++ free.extractLsb' 14 1 ++ bitField E.p ++ bitField E.s ++ 0#1 ++
    E.dm ++ E.vector : BitVec 32)

/-- The high half of an entry as read (R125, R228). -/
def packRteHi (E : Entry) : Word32 := (E.id ++ E.eid ++ 0#16 : BitVec 32)

/-- The software-writable fields of the low half; `s` (bit 12) is not one of them (R46, R227). -/
def Entry.withLo (E : Entry) (w : Word32) : Entry :=
  { E with vector := w.extractLsb' 0 8, dm := w.extractLsb' 8 3, p := w.getLsbD 13, t := w.getLsbD 15,
           m := w.getLsbD 16 }

/-- The fields of the high half (R229). -/
def Entry.withHi (E : Entry) (w : Word32) : Entry :=
  { E with id := w.extractLsb' 24 8, eid := w.extractLsb' 16 8 }

/-- The offset of an address in the platform's PIB, if it is in it (R82, R260). -/
def pibOffset (c : Platform) (a : Word64) : Option Nat :=
  if c.pibBase.toNat ≤ a.toNat ∧ a.toNat < c.pibBase.toNat + 0x200000 then
    some (a.toNat - c.pibBase.toNat)
  else none

/-- The message an IPI store sends (R137, R261). -/
def ipiMsg (a d : Word64) : Msg :=
  { id := a.extractLsb' 12 8, eid := a.extractLsb' 4 8, h := a.getLsbD 3, dm := d.extractLsb' 8 3,
    vector := d.extractLsb' 0 8, t := false }

/-- The address of the IPI store to a destination (R133). -/
def ipiAddress (base : Word64) (id eid : Byte) (h : Bool) : Word64 :=
  base + (0#44 ++ id ++ eid ++ bitField h ++ 0#3 : BitVec 64)

/-- The IPI datum (R134). -/
def ipiDatum (dm : DMode) (vector : Byte) : Word64 := (0#53 ++ dm ++ vector : BitVec 64)

/-- The mode that a message record carries for a code of the Redirection Table's list: `001` is sent as
`000`, the hint being elsewhere (R136, R137, R297, C4, D29). -/
def fixedMode (dm : DMode) : DMode := if dm = DMode.intHint then DMode.int else dm

/-- The message an I/O bus write into the delivery area is (R137); mode `001` is read as `000` (R136, D29). -/
def ioBusMsg (ad data : Word32) : Msg :=
  { id := ad.extractLsb' 12 8, eid := ad.extractLsb' 4 8, h := ad.getLsbD 3,
    dm := fixedMode (data.extractLsb' 8 3),
    vector := data.extractLsb' 0 8, t := data.getLsbD 15 }

/-- The message an entry sends: the hint lives in the address, the mode is fixed (R297, C4). -/
def Entry.msg (E : Entry) : Msg :=
  { id := E.id, eid := E.eid, h := E.dm == DMode.intHint,
    dm := fixedMode E.dm, vector := E.vector, t := E.t }

/-- The I/O bus address of a message (R135): the signature of the PIB, destination, hint. -/
def busAddress (base : Word64) (m : Msg) : Word32 :=
  (base.extractLsb' 20 12 ++ m.id ++ m.eid ++ bitField m.h ++ 0#3 : BitVec 32)

/-- The I/O bus data of a message (R136): vector, mode, trigger. No rule relies on the other bits. -/
def busData (m : Msg) : Word32 := (0#16 ++ bitField m.t ++ 0#4 ++ m.dm ++ m.vector : BitVec 32)

/-- The operation that is the receipt of `m` by processor `q`, by the mode of `m` (R312). -/
def recvInstr (q : Nat) (m : Msg) : Instr :=
  if m.dm = DMode.int then .msgInt q m.body
  else if m.dm = DMode.intHint then .msgUndef001 q m.body
  else if m.dm = DMode.pmi then .msgPmi q m.body
  else if m.dm = DMode.undef011 then .msgUndef011 q m.body
  else if m.dm = DMode.nmi then .msgNmi q m.body
  else if m.dm = DMode.init then .msgInit q m.body
  else if m.dm = DMode.undef110 then .msgUndef110 q m.body
  else .msgExtint q m.body

end Sys2Proof.Machine
end

