-- ==== Sys2Proof/Machine/Flags.lean ====
section
/-! DEFINITION. The computed conditions of the interrupt logic: class and priority of a vector, what is
masked, what is in service, the highest-priority pending unmasked interrupt (`60_exceptions.md` R348 to
R358); pin activity and trigger mode of an entry (`43_message_delivery.md` R291). A vector is a number
from 0 to 255. -/

namespace Sys2Proof.Machine

/-- `class(v)` (R348). -/
def classOf (v : Nat) : Nat := v / 16 % 16

/-- `prio(v)`: NMI 257, ExtINT 256, a vector its number (R349). NMI and ExtINT PRESUMED by the spec
(G13, D4; log 14). -/
def prio (v : Nat) : Nat := if v = 2 then 257 else if v = 0 then 256 else v

/-- The vectors an IVR read can report (R24, R349). -/
abbrev reportable (v : Nat) : Prop := v = 2 ∨ v = 0 ∨ (16 ≤ v ∧ v < 256)

/-- The greatest vector `v` with `16 ≤ v < 16 + k` and `f v`. -/
def scanDown (f : Nat → Bool) : Nat → Option Nat
  | 0 => none
  | k + 1 => if f (k + 16) then some (k + 16) else scanDown f k

/-- The vector of greatest `prio` among those an IVR read can report (R349) for which `f` holds. -/
def topVector (f : Nat → Bool) : Option Nat :=
  if f 2 then some 2 else if f 0 then some 0 else scanDown f 240

/-- `top_insvc(p)` (R353). -/
def Proc.topInsvc (P : Proc) : Option Nat := topVector fun v => P.insvc.getLsbD v

/-- Not masked by service: nothing of equal or higher priority is in service (R353). -/
def Proc.aboveService (P : Proc) (v : Nat) : Bool :=
  match P.topInsvc with
  | none => true
  | some t => decide (prio t < prio v)

/-- `unmasked(p, v)` (R350 to R354), on the effective TPR. -/
def Proc.unmasked (P : Proc) (v : Nat) : Bool :=
  if v = 2 then P.aboveService v
  else if v = 0 then !P.tpr.eff.mmi && P.aboveService v
  else !P.tpr.eff.mmi && decide (P.tpr.eff.mic.toNat < classOf v) && P.aboveService v

/-- The pending vectors `P` of R355: NMI as 2, ExtINT as 0, the others from the IRR. -/
def Proc.pending (P : Proc) (v : Nat) : Bool :=
  if v = 2 then P.nmiP else if v = 0 then P.extP else P.irr.getLsbD v

/-- `hpu(p)`, the highest-priority pending unmasked interrupt (R355). -/
def Proc.hpu (P : Proc) : Option Nat := topVector fun v => P.pending v && P.unmasked v

/-- The active level of an I/O xAPIC input: polarity 0 active high, 1 active low (R291). -/
def activeLevel (polarity level : Bool) : Bool := level != polarity

/-- `active(u, n)` (R291). -/
def Entry.active (E : Entry) : Bool := activeLevel E.p E.pin.level

/-- The pin was active when last sampled. -/
def Entry.wasActive (E : Entry) : Bool := activeLevel E.p E.pin.prev

/-- `teff(u, n)`: an NMI entry is edge whatever its trigger bit says (R291). -/
def Entry.teff (E : Entry) : Bool := if E.dm = DMode.nmi then false else E.t

end Sys2Proof.Machine
end

