-- ==== Sys2Proof/Machine/Memory.lean ====
section
/-! DEFINITION. Ordinary physical memory: bytes at addresses below `2^63` (R80) that no device claims
(R84, R260), and the stores on their way to it. The table has no operation on it; loads and stores by
address reach it, and devices write it from the I/O bus (R103). An address that is not listed has no
value; a value is never removed (log 25). -/

namespace Sys2Proof.Machine

/-- The canonical form: addresses strictly rising. -/
def Memory.wf : Memory → Bool
  | [] => true
  | c :: m => m.all (fun d => decide (c.1 < d.1)) && Memory.wf m

/-- The byte at an address, if anything has written it. -/
def Memory.readByte (m : Memory) (a : Nat) : Option Byte :=
  match m with
  | [] => none
  | (b, v) :: rest => if a = b then some v else Memory.readByte rest a

/-- The memory after a byte is written. -/
def Memory.writeByte (m : Memory) (a : Nat) (v : Byte) : Memory :=
  match m with
  | [] => [(a, v)]
  | (b, x) :: rest =>
    if a < b then (a, v) :: (b, x) :: rest
    else if a = b then (a, v) :: rest
    else (b, x) :: Memory.writeByte rest a v

/-- `n` bytes written from `a` up, the least significant first (log 25). -/
def Memory.write (m : Memory) (a : Nat) (n : Nat) (v : Word64) : Memory :=
  match n with
  | 0 => m
  | k + 1 => Memory.write (m.writeByte a (v.setWidth 8)) (a + 1) k (v >>> 8)

/-- `n` bytes from `a` up, each as `f` gives it, the least significant first (log 25); or the first address
for which `f` gives none. -/
def readWith (f : Nat → Option Byte) (a : Nat) : Nat → Except Nat Word64
  | 0 => .ok 0
  | k + 1 =>
    match f a with
    | none => .error a
    | some v =>
      match readWith f (a + 1) k with
      | .error e => .error e
      | .ok w => .ok ((w <<< 8) ||| v.setWidth 64)

/-- The accesses of ordinary memory that have a meaning: 1, 2, 4 or 8 bytes, naturally aligned (log 25). -/
def memoryForm (a n : Nat) : Bool := (n == 1 || n == 2 || n == 4 || n == 8) && a % n == 0

/-! ### Stores on their way (R101; log 38) -/

/-- The write came before the message at place `i` of `IOBUS`, which waits for it (R103; log 37). -/
def PendingStore.before (x : PendingStore) (i : Nat) : Bool :=
  match x.msgsBefore with
  | none => false
  | some k => decide (k ≤ i)

/-- The write after a message sent before it has left `IOBUS`. -/
def PendingStore.passed (x : PendingStore) : PendingStore := { x with msgsBefore := x.msgsBefore.map (· - 1) }

/-- The message at place `i` of `IOBUS` waits for data. -/
def State.waitsForData (s : State) (i : Nat) : Bool := s.stores.any fun x => x.before i

/-- The store covers the byte at `a`. -/
def PendingStore.covers (x : PendingStore) (a : Nat) : Bool :=
  decide (x.addr ≤ a) && decide (a < x.addr + x.width)

/-- The byte that the store puts at `a`. -/
def PendingStore.byte (x : PendingStore) (a : Nat) : Byte := x.data.extractLsb' (8 * (a - x.addr)) 8

/-- The byte at `a` as a load sees it that is given the store at place `c` of those on their way: that
store's, if it covers the byte, else memory's. -/
def State.seenByte (s : State) (a : Nat) (c : Option Nat) : Option Byte :=
  match c with
  | none => s.mem.readByte a
  | some j =>
    match s.stores[j]? with
    | none => s.mem.readByte a
    | some x => if x.covers a then some (x.byte a) else s.mem.readByte a

end Sys2Proof.Machine
end

