-- ==== Sys2Proof/Machine/Ops.lean ====
section
/-! DEFINITION. The shared operations: registers of a processor, faults, acceptance of an external
interrupt and the return from one, end of interrupt, I/O xAPIC accesses, firing and sending of an entry,
routing, redirection and receipt of messages, local delivery. A meaning is one line over these. -/

namespace Sys2Proof.Machine

/-! ### Updates -/

def State.setProc (s : State) (p : Nat) (P : Proc) : State := { s with procs := s.procs.set p P }

def State.setUnit (s : State) (u : Nat) (U : IoUnit) : State := { s with units := s.units.set u U }

/-- One draw or choose was made (log 9). -/
def State.tick (s : State) : State := { s with draws := s.draws + 1 }

def IoUnit.setEntry (U : IoUnit) (n : Nat) (E : Entry) : IoUnit :=
  { U with entries := U.entries.set n E }

/-- A software write: the architected copy alone (R33). -/
def Ser.write {α : Type} (x : Ser α) (v : α) : Ser α := { x with arch := v }

/-- `Xe <- X` (R33). -/
def Ser.settled {α : Type} (x : Ser α) : Ser α := { x with eff := x.arch }

/-- A value delivered to the software agent (R36, log 11). -/
def Proc.deliver (P : Proc) (r : Word64) : Proc := { P with result := r }

/-! ### Who acts -/

/-- The processor `p`, for a step of its hardware. -/
def onProc (p : Nat) (s : State) (k : Proc → Res) : Res :=
  match s.procs[p]? with
  | none => .fault (.noSuchProcessor p)
  | some P => k P

/-- The processor `p`, for an operation of its software agent: its flow must not have ended (R343, R383). -/
def software (p : Nat) (s : State) (k : Proc → Res) : Res :=
  onProc p s fun P => if P.flow = .running then k P else .fault (.flowEnded p)

/-- The unit `u`, for an operation of the software agent of `p` (R220). -/
def onUnit (p u : Nat) (s : State) (k : Proc → IoUnit → Res) : Res :=
  software p s fun P =>
    match s.units[u]? with
    | none => .fault (.noSuchUnit u)
    | some U => k P U

/-- The entry `n` of unit `u`, for a step of the unit or of a device. -/
def onEntry (u n : Nat) (s : State) (k : IoUnit → Entry → Res) : Res :=
  match s.units[u]? with
  | none => .fault (.noSuchUnit u)
  | some U =>
    match U.entries[n]? with
    | none => .fault .noSuchPin
    | some E => k U E

/-! ### Control registers (R160) -/

/-- A read with no bit left open. -/
def readReg (p : Nat) (s : State) (f : Proc → Word64) : Res :=
  software p s fun P => .next (s.setProc p (P.deliver (f P)))

/-- A read some of whose bits are drawn. -/
def readRegDraw (p : Nat) (s : State) (f : Proc → Word64 → Word64) : Res :=
  software p s fun P => .next (s.setProc p (P.deliver (f P (Config.freeWord s.draws)))).tick

/-- A raised fault: the operation changes nothing and the flow of `p` ends in `Faulted(p, f)` (R343,
R344; log 10). -/
def raiseFault (p : Nat) (s : State) (P : Proc) (f : FaultName) : Res :=
  .next (s.setProc p { P with flow := .faulted f })

/-- A write of a register with reserved bits (R160, R340). -/
def writeReg (p : Nat) (s : State) (w reserved : Word64) (f : Proc → Proc) : Res :=
  software p s fun P =>
    if w &&& reserved = 0 then .next (s.setProc p (f P)) else raiseFault p s P .generalException

/-- A write of a read-only register (R167, R169, R341). -/
def writeReadOnly (p : Nat) (s : State) : Res :=
  software p s fun P => raiseFault p s P .illegalOperation

/-- A write of a Local Redirection Register (R181). -/
def writeLrr (p : Nat) (s : State) (w : Word64) (f : Proc → Lrr → Proc) : Res :=
  software p s fun P =>
    if w &&& lrrUnlabelled ≠ 0 then .refused .lrrUnlabelledBits
    else if dmUndefined (unpackLrr w).dm then .refused .undefinedDeliveryMode
    else .next (s.setProc p (f P (unpackLrr w)))

/-! ### IVR and EOI -/

/-- The pending indication of a reported vector is removed (R168). -/
def Proc.clearPending (P : Proc) (v : Nat) : Proc :=
  if v = 2 then { P with nmiP := false }
  else if v = 0 then { P with extP := false }
  else { P with irr := writeBit P.irr v false }

/-- The vector is in service (R168). -/
def Proc.markInService (P : Proc) (v : Nat) : Proc := { P with insvc := writeBit P.insvc v true }

/-- What an IVR read does to its processor (R168): 15 and no change if nothing is deliverable. -/
def Proc.readIvr (P : Proc) : Proc :=
  match P.hpu with
  | none => P.deliver 0x0F
  | some v => ((P.clearPending v).markInService v).deliver (BitVec.ofNat 64 v)

/-- The EOI effect (R170); none if nothing is in service. -/
def Proc.eoiEffect (P : Proc) : Option Proc :=
  match P.topInsvc with
  | none => none
  | some v => some { P with insvc := writeBit P.insvc v false }

/-- `k` EOI effects, one after the other; none if one finds nothing in service. -/
def Proc.eoiEffects : Nat → Proc → Option Proc
  | 0, P => some P
  | k + 1, P =>
    match P.eoiEffect with
    | none => none
    | some P' => Proc.eoiEffects k P'

/-- Every serializable element but the queued EOIs brought up to date (R184). -/
def Proc.settleAll (P : Proc) : Proc :=
  { P with lid := P.lid.settled, tpr := P.tpr.settled, itv := P.itv.settled, pmv := P.pmv.settled,
           cmcv := P.cmcv.settled, lrr0 := P.lrr0.settled, lrr1 := P.lrr1.settled,
           psrI := P.psrI.settled, psrIc := P.psrIc.settled }

/-- Data serialization (R184). -/
def Proc.serialize (P : Proc) : Option Proc :=
  match Proc.eoiEffects P.eoiq P.settleAll with
  | none => none
  | some P' => some { P' with eoiq := 0 }

/-! ### Taking an external interrupt, and returning -/

/-- Acceptance (R360): IPSR takes the architected PSR bits, both copies of both bits go to 0, control
goes to `EXT_INT_ENTRY`, `entry` (R361). Nothing pending or in service changes. -/
def Proc.acceptInterrupt (P : Proc) (entry : Word64) : Proc :=
  { P with ipsr := { i := P.psrI.arch, ic := P.psrIc.arch }, psrI := Ser.same false,
           psrIc := Ser.same false, event := .extIntEntry entry }

/-- Return from interruption (R189): both copies of both PSR bits from IPSR. PRESUMED by the spec (G11,
D16; log 15). -/
def Proc.returnFromInterruption (P : Proc) : Proc :=
  { P with psrI := Ser.same P.ipsr.i, psrIc := Ser.same P.ipsr.ic, event := .resumed }

/-! ### Addresses that devices claim -/

/-- Whether an address lies in the 256-byte window of a unit (R87, R145; log 23). -/
def IoUnit.claims (U : IoUnit) (a : Nat) : Bool :=
  decide (U.base.toNat ≤ a) && decide (a < U.base.toNat + 256)

/-- A device claims the address: it lies in the PIB (R82) or in a unit's window, and there is no memory
there (R84, R260). -/
def State.deviceByte (s : State) (a : Nat) : Bool :=
  (decide (s.plat.pibBase.toNat ≤ a) && decide (a < s.plat.pibBase.toNat + 0x200000)) ||
    s.units.any (·.claims a)

/-- A device claims one of the `n` addresses from `a` up. -/
def State.deviceBytes (s : State) (a n : Nat) : Bool :=
  (List.range n).any fun k => s.deviceByte (a + k)

/-! ### I/O xAPIC -/

/-- A window access to an index that the unit selects (R224 to R231): `x` is the index that names the
operation. An operation the selection does not name is refused (log 24). -/
def onWindow (p u x : Nat) (s : State) (k : Proc → IoUnit → Res) : Res :=
  onUnit p u s fun P U => if U.sel.toNat = x then k P U else .refused .windowSelectDiffers

/-- A window access to a half of entry `n`, whose index is `x`; an entry above `MAXRTE(u)` is an
undefined internal register (R127, R231). -/
def onWindowEntry (p u x n : Nat) (s : State) (k : Proc → IoUnit → Entry → Res) : Res :=
  onWindow p u x s fun P U =>
    match U.entries[n]? with
    | none => .refused .undefinedInternalRegister
    | some E => k P U E

/-- What is checked when an entry fires (R294). -/
def Entry.fireCheck (E : Entry) : Option Refusal :=
  if (E.dm = DMode.int ∨ E.dm = DMode.intHint) ∧ E.vector.toNat < 16 then some .intReservedVector
  else if E.dm = DMode.extInt ∧ E.t then some .extIntLevel
  else if E.dm = DMode.pmi ∧ E.t then some .pmiLevel
  else if E.dm = DMode.pmi ∧ 15 < E.vector.toNat then some .pmiVectorAbove15
  else if E.dm = DMode.init ∧ E.t then some .initLevel
  else none

/-- The entry, its delivery status set, if the check of R294 passes. -/
def Entry.fire (E : Entry) : Except Refusal Entry :=
  match E.fireCheck with
  | some r => .error r
  | none => .ok { E with s := true }

/-- Unmasking of an entry (R301): an edge entry whose pin is active may or may not be latched. -/
def Entry.unmask (E : Entry) (free : Bool) : Except Refusal Entry :=
  if E.teff = false ∧ E.active then
    match E.fireCheck with
    | some r => .error r
    | none => .ok { E with s := E.s || free }
  else .ok E

/-- A store to the low half (R227), after its datum was checked. -/
def Entry.storeLo (E : Entry) (w : Word32) (free : Bool) : Except Refusal Entry :=
  let E' := E.withLo w
  if E.m = false ∧ E'.m then .ok (if E.s then { E' with s := free } else E')
  else if E.m ∧ E'.m = false then E'.unmask free
  else .ok E'

/-- The check of a low half's datum (R227). -/
def rteLoCheck (w : Word32) : Option Refusal :=
  if w.extractLsb' 17 15 ≠ 0 then some .ioxReservedField
  else if w.getLsbD 14 ∨ w.getLsbD 11 then some .rteUnlabelledBits
  else if dmUndefinedRte (w.extractLsb' 8 3) then some .undefinedDeliveryMode
  else none

/-- The effect of an I/O EOI write on an entry (R233): a level entry with the vector is released. -/
def Entry.ioEoi (v : Byte) (E : Entry) : Entry :=
  if E.t ∧ E.vector = v then { E with await := false } else E

/-- A sample of the pin is over (R291). -/
def Entry.sampled (E : Entry) : Entry := { E with pin := { E.pin with prev := E.pin.level } }

/-- The effect of a sample step before the level is noted (R292, R293, R295, R298, R299). -/
def Entry.sample (E : Entry) (free : Bool) : Except Refusal Entry :=
  if E.m then .ok E
  else if E.teff = false then
    if E.wasActive = false ∧ E.active ∧ E.s = false then E.fire else .ok E
  else if E.active ∧ E.await = false ∧ E.s = false then E.fire
  else if E.wasActive ∧ E.active = false ∧ E.s then .ok { E with s := free }
  else .ok E

/-- The entry after its message was sent (R297). -/
def Entry.sent (E : Entry) : Entry := { E with s := false, await := if E.teff then true else E.await }

/-! ### Messages -/

/-- The effective ID:EID of a processor is the destination of a message (R312). -/
def Proc.matches (P : Proc) (m : Msg) : Bool := P.lid.eff.id == m.id && P.lid.eff.eid == m.eid

/-- The processors that hold the destination of a message. -/
def State.holders (s : State) (m : Msg) : List Proc := s.procs.filter (·.matches m)

/-- A message whose destination two processors hold is on a bus (R314). -/
def State.duplicateHeld (s : State) : Bool :=
  (s.ioBus ++ s.sysBus.map Prod.snd).any fun m => decide (2 ≤ (s.holders m).length)

/-- `r`, unless two processors hold the destination of `m`: then the run is refused (R314; log 18). -/
def unlessDuplicate (s : State) (m : Msg) (r : Res) : Res :=
  if 2 ≤ (s.holders m).length then .refused .duplicateLids else r

/-- `dest_bus(m)` (R304): the bus of the processor that holds the destination; if none does, the bus of
some processor (`choose`; log 19); two holders are refused (R314; log 18). -/
def destBus (s : State) (m : Msg) : Except Refusal Nat :=
  match s.holders m with
  | [P] => .ok P.bus
  | [] =>
    match s.procs[Config.freeNat s.draws % s.procs.length]? with
    | some P => .ok P.bus
    | none => .ok 0
  | _ => .error .duplicateLids

/-- `send(SYSBUS[dest_bus(m)], m)` (R261). -/
def State.sendSys (s : State) (b : Nat) (m : Msg) : State := { s with sysBus := s.sysBus ++ [(b, m)] }

/-- `send(IOBUS, m)` (R297). -/
def State.sendIo (s : State) (m : Msg) : State := { s with ioBus := s.ioBus ++ [m] }

/-- The processors a hinted message may be redirected to (R305): on bus `b`, XTP register enabled, of
least XTP priority. -/
def redirectTargets (s : State) (b : Nat) : List Proc :=
  let c := s.procs.filter fun P => P.bus == b && Config.xtpEnabled P.xtp
  c.filter fun P => c.all fun Q => decide (Config.xtpPrio P.xtp ≤ Config.xtpPrio Q.xtp)

/-- The message after the body of R305, the hint cleared: the destination left alone or changed to one
of the targets `l` (`choose`, D27; log 31). With no target it is left alone. -/
def redirected (s : State) (l : List Proc) (m : Msg) : Msg :=
  match l[Config.freeNat s.draws % l.length]? with
  | none => { m with h := false }
  | some Q =>
    if Config.freeBool s.draws then { m with id := Q.lid.eff.id, eid := Q.lid.eff.eid, h := false }
    else { m with h := false }

/-- `m` is put on `SYSBUS[dest_bus(m)]` without the hint, its destination perhaps changed to one of the
targets on that bus (R304, R305). Two draws are used: the bus, then the target. -/
def forward (s : State) (m : Msg) (targets : Nat → List Proc) : Res :=
  match destBus s m with
  | .error r => .refused r
  | .ok b => .next (s.tick.sendSys b (redirected s.tick (targets b) m)).tick

/-- Receive step of processor `q` (R312): `m` is on its bus, without the hint, for it. Two processors
with that ID:EID are refused (R314). -/
def receiveMsg (q : Nat) (m : Msg) (s : State) (effect : Proc → Except Refusal Proc) : Res :=
  onProc q s fun Q =>
    if (Q.bus, m) ∈ s.sysBus ∧ m.h = false ∧ Q.matches m then
      unlessDuplicate s m <|
        match effect Q with
        | .error r => .refused r
        | .ok Q' => .next { s.setProc q Q' with sysBus := s.sysBus.erase (Q.bus, m) }
    else .fault .notEnabled

/-- INT delivery: the vector is pended (R315). -/
def Proc.pendInt (v : Byte) (P : Proc) : Except Refusal Proc :=
  if v.toNat < 16 then .error .intReservedVector
  else .ok { P with irr := writeBit P.irr v.toNat true }

/-- PMI delivery: the vector joins `PMIP` (R318). -/
def Proc.pendPmi (v : Byte) (P : Proc) : Except Refusal Proc :=
  if 15 < v.toNat then .error .pmiVectorAbove15
  else .ok { P with pmiP := writeBit P.pmiP v.toNat true }

/-- NMI delivery (R316). -/
def Proc.pendNmi (P : Proc) : Proc := { P with nmiP := true }

/-- INIT delivery (R319). -/
def Proc.pendInit (P : Proc) : Proc := { P with initP := true }

/-- ExtINT delivery (R317). -/
def Proc.pendExtInt (P : Proc) : Proc := { P with extP := true }

/-- `deliver_local(p, dm, vector)` (`43_message_delivery.md` section 6). It has no case for `001`, `011`,
`110`, which no LRR written by R181 holds (log 30). -/
def Proc.deliverLocal (dm : DMode) (v : Byte) (P : Proc) : Except Refusal Proc :=
  if dm = DMode.int then P.pendInt v
  else if dm = DMode.pmi then P.pendPmi v
  else if dm = DMode.nmi then .ok P.pendNmi
  else if dm = DMode.init then .ok P.pendInit
  else if dm = DMode.extInt then .ok P.pendExtInt
  else .error .undefinedDeliveryMode

end Sys2Proof.Machine
end

