-- ==== Sys2Proof/Machine/Hardware.lean ====
section
/-! DEFINITION. What the hardware does on its own (`43_message_delivery.md`), acceptance and the special
interrupts (`60_exceptions.md` R359, R360, R382, R383), settle steps (R33), and the environment's moves
(`00_scope.md` R17). A hardware step whose condition does not hold is no step: it faults (log 13). -/

namespace Sys2Proof.Machine

/-! ### The processor's hardware -/

/-- `Xe <- X` for one element, or one queued EOI applied (R33 (a)). -/
def settle (p : Nat) (x : SerElem) (s : State) : Res :=
  onProc p s fun P =>
    match x with
    | .lid => .next (s.setProc p { P with lid := P.lid.settled })
    | .tpr => .next (s.setProc p { P with tpr := P.tpr.settled })
    | .itv => .next (s.setProc p { P with itv := P.itv.settled })
    | .pmv => .next (s.setProc p { P with pmv := P.pmv.settled })
    | .cmcv => .next (s.setProc p { P with cmcv := P.cmcv.settled })
    | .lrr0 => .next (s.setProc p { P with lrr0 := P.lrr0.settled })
    | .lrr1 => .next (s.setProc p { P with lrr1 := P.lrr1.settled })
    | .psrI => .next (s.setProc p { P with psrI := P.psrI.settled })
    | .psrIc => .next (s.setProc p { P with psrIc := P.psrIc.settled })
    | .eoi =>
      if P.eoiq = 0 then .fault .notEnabled
      else
        match P.eoiEffect with
        | none => .refused .eoiNothingInService
        | some P' => .next (s.setProc p { P' with eoiq := P.eoiq - 1 })

/-- Acceptance of an external interrupt, between two operations of a running flow (R359, R360). -/
def accept (p : Nat) (s : State) : Res :=
  onProc p s fun P =>
    if P.flow = .running ∧ P.psrI.eff ∧ P.hpu ≠ none then
      if P.psrIc.eff then .next (s.setProc p (P.acceptInterrupt s.plat.extIntEntry)) else .refused .collectionOff
    else .fault .notEnabled

/-- PMI `v` taken (R382): firmware runs; its own operations are moves of the agenda (log 26). -/
def takePmi (p : Nat) (v : BitVec 4) (s : State) : Res :=
  onProc p s fun P =>
    if P.flow = .running ∧ P.pmiP.getLsbD v.toNat then
      .next (s.setProc p { P with pmiP := writeBit P.pmiP v.toNat false,
                                  event := .pmi v (Config.pmiVectorMeaning v) })
    else .fault .notEnabled

/-- INIT taken (R383): the software flow ends (log 27). -/
def takeInit (p : Nat) (s : State) : Res :=
  onProc p s fun P =>
    if P.flow = .running ∧ P.initP then
      .next (s.setProc p { P with initP := false, flow := .initialized, event := .init })
    else .fault .notEnabled

/-- An internal event through its Local Vector Register (R322 to R324). -/
def localEvent (p : Nat) (s : State) (lvr : Proc → Lvr) : Res :=
  onProc p s fun P =>
    if (lvr P).m then .next s
    else if (lvr P).vector.toNat < 16 then .refused .lvrReservedVector
    else .next (s.setProc p { P with irr := writeBit P.irr (lvr P).vector.toNat true })

/-- R322. -/
def timerEvent (p : Nat) (s : State) : Res := localEvent p s fun P => P.itv.eff

/-- R323. -/
def pmuEvent (p : Nat) (s : State) : Res := localEvent p s fun P => P.pmv.eff

/-- R324. -/
def cmcEvent (p : Nat) (s : State) : Res := localEvent p s fun P => P.cmcv.eff

def Proc.lint (P : Proc) : LintPin → Pin
  | .lint0 => P.lint0
  | .lint1 => P.lint1

def Proc.setLint (P : Proc) (k : LintPin) (x : Pin) : Proc :=
  match k with
  | .lint0 => { P with lint0 := x }
  | .lint1 => { P with lint1 := x }

/-- The effective LRR of a pin (R29, D30). -/
def Proc.lrrEff (P : Proc) : LintPin → Lrr
  | .lint0 => P.lrr0.eff
  | .lint1 => P.lrr1.eff

/-- What a level-sensitive LINT pin with a mode other than INT or NMI is refused for (R328). -/
def lintLevelRefusal (dm : DMode) : Refusal :=
  if dm = DMode.extInt then .extIntLevel
  else if dm = DMode.pmi then .pmiLevel
  else if dm = DMode.init then .initLevel
  else .undefinedDeliveryMode

/-- The effect of a sample step of a LINT pin that was and is (in)active (R325 to R328). While a level
pin stays active its vector may be pended again (`choose`, D44), and a reserved vector is refused if it
is (log 20). DESIGN CHOICE (log 20): R326 says so of a pin whose pending bit an IVR read has cleared; the
model lets an active pin pend at every such sample, also when no IVR read came before (the pin was asserted
under the mask, or the LRR was rewritten meanwhile). Safe: that it does not pend is a run too. -/
def Proc.sampleLint (P : Proc) (L : Lrr) (was is free : Bool) : Except Refusal Proc :=
  if L.m then .ok P
  else if L.tm = false ∨ L.dm = DMode.nmi then
    if was = false ∧ is then P.deliverLocal L.dm L.vector else .ok P
  else if L.dm = DMode.int then
    if was = false ∧ is then P.pendInt L.vector
    else if was ∧ is = false then .ok { P with irr := writeBit P.irr L.vector.toNat false }
    else if was ∧ is ∧ free then P.pendInt L.vector
    else .ok P
  else if was = false ∧ is then .error (lintLevelRefusal L.dm)
  else .ok P

/-- Sample step of a LINT pin. One choose is used, needed or not. -/
def sampleLint (p : Nat) (k : LintPin) (s : State) : Res :=
  onProc p s fun P =>
    if P.hasLint = false then .fault .noSuchPin
    else
      let x := P.lint k
      let L := P.lrrEff k
      match P.sampleLint L (activeLevel L.ipp x.prev) (activeLevel L.ipp x.level)
          (Config.freeBool s.draws) with
      | .error r => .refused r
      | .ok P' => .next (s.setProc p (P'.setLint k { x with prev := x.level })).tick

/-! ### The I/O xAPIC unit -/

/-- Sample step of pin `n` (R291). One choose is used, needed or not. -/
def samplePin (u n : Nat) (s : State) : Res :=
  onEntry u n s fun U E =>
    match E.sample (Config.freeBool s.draws) with
    | .error r => .refused r
    | .ok E' => .next (s.setUnit u (U.setEntry n E'.sampled)).tick

/-- Send step of entry `n` (R296, R297). -/
def sendEntry (u n : Nat) (s : State) : Res :=
  onEntry u n s fun U E =>
    if E.s ∧ E.m = false then .next ((s.setUnit u (U.setEntry n E.sent)).sendIo E.msg)
    else .fault .notEnabled

/-! ### The bridge controller -/

/-- The bridge takes `m` from the I/O bus: pass-through (no target), or redirection where it is
implemented and the hint is set (R304, R305). It does so only when the data that was written before `m` is
in memory (R103). DEDUCED (log 37): the bus on which R103 keeps the order is left by the message here.
Of equal messages the oldest is taken. -/
def bridge (m : Msg) (s : State) : Res :=
  if m ∈ s.ioBus ∧ s.waitsForData (s.ioBus.idxOf m) = false then
    forward { s with ioBus := s.ioBus.erase m, stores := s.stores.map PendingStore.passed } m fun b =>
      if m.h ∧ s.plat.hasIoRedirect then redirectTargets s b else []
  else .fault .notEnabled

/-- A hinted IPI on bus `b`: handled by a chipset that does so, by the body of R305, which puts it on the
bus of its destination, with no target if the chipset has no XTP registers (R309); lost on another
chipset (R310). -/
def ipiHint (b : Nat) (m : Msg) (s : State) : Res :=
  if (b, m) ∈ s.sysBus ∧ m.h then
    unlessDuplicate s m <|
      if s.plat.hasIpiRedirect then
        if m.dm ≠ DMode.int then .refused .hintNotInt
        else
          forward { s with sysBus := s.sysBus.erase (b, m) } m fun d =>
            if s.plat.ipiXtp then redirectTargets s d else []
      else .next { s with sysBus := s.sysBus.erase (b, m) }
  else .fault .notEnabled

/-- A message that no processor on its bus matches is dropped (R313). -/
def dropMsg (b : Nat) (m : Msg) (s : State) : Res :=
  if (b, m) ∈ s.sysBus ∧ m.h = false ∧ s.procs.all (fun P => !(P.bus == b && P.matches m)) then
    unlessDuplicate s m <| .next { s with sysBus := s.sysBus.erase (b, m) }
  else .fault .notEnabled

/-! ### The environment -/

/-- A pin driven to a level: it may change only if it was sampled since it last changed (R333, log 22). -/
def drive (x : Pin) (level : Bool) : Except Refusal Pin :=
  if x.level = level then .ok x
  else if x.level = x.prev then .ok { x with level := level }
  else .error .pulseTooShort

/-- A device drives pin `n` of unit `u`. -/
def drivePin (u n : Nat) (level : Bool) (s : State) : Res :=
  onEntry u n s fun U E =>
    match drive E.pin level with
    | .error r => .refused r
    | .ok x => .next (s.setUnit u (U.setEntry n { E with pin := x }))

/-- A device drives a LINT pin. -/
def driveLint (p : Nat) (k : LintPin) (level : Bool) (s : State) : Res :=
  onProc p s fun P =>
    if P.hasLint = false then .fault .noSuchPin
    else
      match drive (P.lint k) level with
      | .error r => .refused r
      | .ok x => .next (s.setProc p (P.setLint k x))

/-- A dedicated pin driven: active high, edge (D45; log 21). Assertion pends NMI (R332), PMI with
parameter 0 (R330) or INIT (R331); anything else changes the level alone. -/
def Proc.driveDedicated (P : Proc) (k : DedicatedPin) (level : Bool) : Proc :=
  match k with
  | .nmi => { P with nmiPin := level, nmiP := P.nmiP || (level && !P.nmiPin) }
  | .pmi =>
    { P with pmiPin := level, pmiP := if level && !P.pmiPin then writeBit P.pmiP 0 true else P.pmiP }
  | .init => { P with initPin := level, initP := P.initP || (level && !P.initPin) }

def driveDedicated (p : Nat) (k : DedicatedPin) (level : Bool) (s : State) : Res :=
  onProc p s fun P => .next (s.setProc p (P.driveDedicated k level))

/-- A device's data write of `n` bytes on the I/O bus, at addresses no device claims (R84, R103).

DESIGN CHOICE (log 29): the spec gives a width for messages alone (R103, 32 bits); the model takes for a
memory write cycle the forms it takes for memory, 1, 2, 4 or 8 bytes naturally aligned, and a longer
transfer is more than one of them. Safe: others are refused. Everywhere else below `2^63` is memory, and at
or above it the write is a fault (R80, R88; log 25).

The data is on its way, as a processor's store is (log 38), and later messages wait for it (`bridge`).
DESIGN CHOICE (log 37), unsafe: on every platform; R104 and I21 leave that duty to the platform, R446 warns
software of it. -/
def deviceData (a n : Nat) (data : Word64) (s : State) : Res :=
  if 2 ^ 63 ≤ a then .fault (.noSuchAddress a)
  else if memoryForm a n = false then .refused .memoryAccessForm
  else if s.deviceBytes a n then .refused .ioBusWriteToDevice
  else .next { s with stores := s.stores ++ [⟨a, n, data, some s.ioBus.length⟩] }

/-- A 32-bit write on the I/O bus by a device. In the delivery area it is a message of a defined mode
(R109, R302); outside the PIB it is data.

DESIGN CHOICE (log 29): R135 gives the 32-bit I/O bus address only as `0xFEE` and 20 bits, and a PIB
relocated to or above `2^32` has no such address. On that platform no write is a message, and a write to
`0xFEEx_xxxx` is data; messages then come by `deviceMsg`. -/
def ioBusWrite (ad data : Word32) (s : State) : Res :=
  match pibOffset s.plat (ad.setWidth 64) with
  | some o =>
    if 0x100000 ≤ o ∨ ad.extractLsb' 0 3 ≠ 0 then .refused .malformedIoBusMessage
    else if dmUndefinedRte (data.extractLsb' 8 3) then .refused .undefinedDeliveryMode
    else .next (s.sendIo (ioBusMsg ad data))
  | none => deviceData ad.toNat 4 (data.setWidth 64) s

/-- The environment sends on the I/O bus any record of a defined mode, on every platform (R302); code `001`
is sent as `000` (R137, D29). -/
def deviceMsg (m : Msg) (s : State) : Res :=
  if dmUndefinedRte m.dm then .refused .undefinedDeliveryMode
  else .next (s.sendIo { m with dm := fixedMode m.dm })

/-- A pending store reaches memory. DESIGN CHOICE (log 38), safe: at any time and in any order. -/
def land (k : Nat) (s : State) : Res :=
  match s.stores[k]? with
  | none => .fault .notEnabled
  | some x =>
    .next { s with mem := s.mem.write x.addr x.width x.data, stores := s.stores.eraseIdx k }

/-- A pending load is performed and its value delivered. DESIGN CHOICE (log 38), safe: at any time and in
any order, each byte what memory holds or what any one store on its way puts there, whoever issued it. -/
def perform (k : Nat) (sees : List (Option Nat)) (s : State) : Res :=
  match s.loads[k]? with
  | none => .fault .notEnabled
  | some x =>
    onProc x.p s fun P =>
      match readWith (fun b => s.seenByte b (sees[b - x.addr]?.getD none)) x.addr x.width with
      | .error a => .fault (.unwrittenByte a)
      | .ok v => .next { s.setProc x.p (P.deliver v) with loads := s.loads.eraseIdx k }

/-- A read on the I/O bus: from the PIB a target abort, seen by the device alone (R84, R268). No state of
the machine changes. -/
def ioBusRead (_ad : Word32) (s : State) : Res := .next s

/-- Software writes IPSR (R189, R144; log 28). -/
def writeIpsr (p : Nat) (v : PsrBits) (s : State) : Res :=
  software p s fun P => .next (s.setProc p { P with ipsr := v })

end Sys2Proof.Machine
end

