-- ==== Sys2Proof/Machine/Access.lean ====
section
/-! DEFINITION. The address map (`20_memory.md` R80 to R96): which operation a load or store by physical
address is (R9 `MemRead`, `MemWrite`). -/

namespace Sys2Proof.Machine

/-- What an access is. -/
inductive Claimed where
  /-- An operation of the table. -/
  | instr (i : Instr)
  /-- An access of ordinary memory. -/
  | memory
  /-- An access at or above `2^63`, where the physical memory space ends (R54, R80). -/
  | nowhere
  /-- An access the spec refuses. -/
  | refuse (r : Refusal)
  deriving DecidableEq, Repr

/-- An access to the PIB, `o` its offset (R83, R92 to R96). -/
def pibInstr (c : Platform) (x : Access) (o : Nat) : Instr :=
  if o < 0x100000 then
    if x.store then
      if x.width = 8 ∧ x.addr.extractLsb' 0 3 = 0 then .ipiSt8 x.p x.addr x.data
      else .ipiStBad x.p x.addr x.width x.data
    else .ipiLd x.p x.addr x.width
  else if o = c.xtpOffset ∧ x.width = 1 ∧ x.store then .xtpSt1 x.p x.addr (x.data.setWidth 8)
  else if o = c.intaOffset ∧ x.width = 1 ∧ x.store = false then .intaLd1 x.p x.addr
  else .pibUndef x.p x.addr x.width x.store x.data

/-- The window access that `SEL[u]` selects (R224 to R231). -/
def windowInstr (p u : Nat) (U : IoUnit) (store : Bool) (w : Word32) : Instr :=
  let x := U.sel.toNat
  let n := (x - 16) / 2
  if x = 1 then if store then .ioxWinSt4Ver p u w else .ioxWinLd4Ver p u
  else if x < 16 ∨ U.entries.length ≤ n then
    if store then .ioxWinSt4Undef p u U.sel w else .ioxWinLd4Undef p u U.sel
  else if x % 2 = 0 then if store then .ioxWinSt4Rtelo p u n w else .ioxWinLd4Rtelo p u n
  else if store then .ioxWinSt4Rtehi p u n w else .ioxWinLd4Rtehi p u n

/-- An access to the window of unit `u` (R87, R90, R220). DESIGN CHOICE (log 39): a cacheable access is
refused, whatever its width, alignment and offset. The rules require an uncacheable one (R90, R102, R220)
and refuse other widths, alignments and offsets; only of the PIB do they say that a cacheable access is
refused (R85). Safe. -/
def ioxAccess (x : Access) (u : Nat) (U : IoUnit) : Claimed :=
  let o := x.addr.toNat - U.base.toNat
  let w : Word32 := x.data.setWidth 32
  if x.cacheable then .refuse .cacheableDeviceAccess
  else if x.width ≠ 4 ∨ x.addr.toNat % 4 ≠ 0 then .refuse .partialIoxAccess
  else if o = 0x00 then .instr (if x.store then .ioxSelSt4 x.p u w else .ioxSelLd4 x.p u)
  else if o = 0x10 then .instr (windowInstr x.p u U x.store w)
  else if o = 0x20 ∧ x.store then .instr (.ioxIrqaSt4 x.p u w)
  else if o = 0x40 ∧ x.store then .instr (.ioxEoiSt4 x.p u w)
  else .refuse .undefinedIoxOffset

/-- The first unit of a list, numbered from `k`, whose window holds an address. DESIGN CHOICE (log 23):
where two windows overlap the lowest-numbered unit claims; the spec gives neither the size of a window
nor who claims an address of two. Unsafe there. -/
def findUnit (a : Nat) (k : Nat) : List IoUnit → Option (Nat × IoUnit)
  | [] => none
  | U :: rest => if U.claims a then some (k, U) else findUnit a (k + 1) rest

/-- What an access is, on the platform of the state. At or above `2^63` there is no device and no memory
(R54 (2), R80); that such an access is a fault is the model's choice (log 25). DESIGN CHOICE (log 23): an
address that lies in the PIB and in a unit's window is the PIB's, one in two windows the lowest-numbered
unit's; the spec is silent (R7, R40, R87, R220). Unsafe there. DESIGN CHOICE (log 25): every other address
below `2^63` is memory; R88 leaves the rest of the address space to the platform, and R80 says only 'up to'
`2^63` bytes. Unsafe where a platform has none. -/
def claim (x : Access) (s : State) : Claimed :=
  if 2 ^ 63 ≤ x.addr.toNat then .nowhere
  else
    match pibOffset s.plat x.addr with
    | some o =>
      if x.cacheable then .refuse .cacheableDeviceAccess else .instr (pibInstr s.plat x o)
    | none =>
      match findUnit x.addr.toNat 0 s.units with
      | some (u, U) => ioxAccess x u U
      | none => .memory

/-- A load or store of ordinary memory (R54 (2); log 25) is issued: it is on its way, and lands or is
performed later. DESIGN CHOICE (log 38), safe: the spec has no consistency model (R101). -/
def memoryAccess (x : Access) (s : State) : Res :=
  software x.p s fun _ =>
    if memoryForm x.addr.toNat x.width = false then .refused .memoryAccessForm
    else if s.deviceBytes x.addr.toNat x.width then .refused .straddlesDevice
    else if x.store then .next { s with stores := s.stores ++ [⟨x.addr.toNat, x.width, x.data, none⟩] }
    else .next { s with loads := s.loads ++ [⟨x.p, x.addr.toNat, x.width⟩] }

end Sys2Proof.Machine
end

