-- ==== Sys2Proof/Machine/ControlRegs.lean ====
section
/-! DEFINITION. Operations on the Local SAPIC control registers (`40_local_sapic_ops.md` R160 to R183).
Reads give the effective copy, writes set the architected copy (R33). -/

namespace Sys2Proof.Machine

/-- R161. -/
def execMovFromLid (p : Nat) (s : State) : Res := readRegDraw p s fun P f => packLid P.lid.eff f

/-- R162. -/
def execMovToLid (p : Nat) (w : Word64) (s : State) : Res :=
  writeReg p s w lidReserved fun P => { P with lid := P.lid.write (unpackLid w) }

/-- R163. -/
def execMovFromIrr0 (p : Nat) (s : State) : Res := readRegDraw p s fun P f => packIrr0 P.irr f

/-- R164. -/
def execMovFromIrr1 (p : Nat) (s : State) : Res := readReg p s fun P => packIrr P.irr 1

/-- R165. -/
def execMovFromIrr2 (p : Nat) (s : State) : Res := readReg p s fun P => packIrr P.irr 2

/-- R166. -/
def execMovFromIrr3 (p : Nat) (s : State) : Res := readReg p s fun P => packIrr P.irr 3

/-- R167. -/
def execMovToIrr0 (p : Nat) (_w : Word64) (s : State) : Res := writeReadOnly p s

/-- R167. -/
def execMovToIrr1 (p : Nat) (_w : Word64) (s : State) : Res := writeReadOnly p s

/-- R167. -/
def execMovToIrr2 (p : Nat) (_w : Word64) (s : State) : Res := writeReadOnly p s

/-- R167. -/
def execMovToIrr3 (p : Nat) (_w : Word64) (s : State) : Res := writeReadOnly p s

/-- R168. -/
def execMovFromIvr (p : Nat) (s : State) : Res :=
  software p s fun P => .next (s.setProc p P.readIvr)

/-- R169. -/
def execMovToIvr (p : Nat) (_w : Word64) (s : State) : Res := writeReadOnly p s

/-- R170: the value is ignored; one end of interrupt is queued. -/
def execMovToEoi (p : Nat) (_w : Word64) (s : State) : Res :=
  software p s fun P => .next (s.setProc p { P with eoiq := P.eoiq + 1 })

/-- R171: any 64-bit value. -/
def execMovFromEoi (p : Nat) (s : State) : Res := readRegDraw p s fun _ f => f

/-- R172. -/
def execMovFromTpr (p : Nat) (s : State) : Res := readRegDraw p s fun P f => packTpr P.tpr.eff f

/-- R173. -/
def execMovToTpr (p : Nat) (w : Word64) (s : State) : Res :=
  writeReg p s w tprReserved fun P => { P with tpr := P.tpr.write (unpackTpr w) }

/-- R174. -/
def execMovFromItv (p : Nat) (s : State) : Res := readReg p s fun P => packLvr P.itv.eff

/-- R175. -/
def execMovToItv (p : Nat) (w : Word64) (s : State) : Res :=
  writeReg p s w lvrReserved fun P => { P with itv := P.itv.write (unpackLvr w) }

/-- R176. -/
def execMovFromPmv (p : Nat) (s : State) : Res := readReg p s fun P => packLvr P.pmv.eff

/-- R177. -/
def execMovToPmv (p : Nat) (w : Word64) (s : State) : Res :=
  writeReg p s w lvrReserved fun P => { P with pmv := P.pmv.write (unpackLvr w) }

/-- R178. -/
def execMovFromCmcv (p : Nat) (s : State) : Res := readReg p s fun P => packLvr P.cmcv.eff

/-- R179. -/
def execMovToCmcv (p : Nat) (w : Word64) (s : State) : Res :=
  writeReg p s w lvrReserved fun P => { P with cmcv := P.cmcv.write (unpackLvr w) }

/-- R180. -/
def execMovFromLrr0 (p : Nat) (s : State) : Res := readRegDraw p s fun P f => packLrr P.lrr0.eff f

/-- R181. -/
def execMovToLrr0 (p : Nat) (w : Word64) (s : State) : Res :=
  writeLrr p s w fun P l => { P with lrr0 := P.lrr0.write l }

/-- R182. -/
def execMovFromLrr1 (p : Nat) (s : State) : Res := readRegDraw p s fun P f => packLrr P.lrr1.eff f

/-- R183. -/
def execMovToLrr1 (p : Nat) (w : Word64) (s : State) : Res :=
  writeLrr p s w fun P l => { P with lrr1 := P.lrr1.write l }

end Sys2Proof.Machine
end

