-- ==== Sys2Proof/Machine/IoXapic.lean ====
section
/-! DEFINITION. Operations on the I/O xAPIC registers (`41_io_xapic_ops.md` R220 to R233), by the
software agent of any processor. -/

namespace Sys2Proof.Machine

/-- R222. -/
def execIoxSelSt4 (p u : Nat) (w : Word32) (s : State) : Res :=
  onUnit p u s fun _ U =>
    if w.extractLsb' 8 24 ≠ 0 then .refused .selectAbove8Bits
    else .next (s.setUnit u { U with sel := w.extractLsb' 0 8 })

/-- R223. -/
def execIoxSelLd4 (p u : Nat) (s : State) : Res :=
  onUnit p u s fun P U => .next (s.setProc p (P.deliver (U.sel.setWidth 64)))

/-- R232: refused, implemented or not. -/
def execIoxIrqaSt4 (p u : Nat) (_w : Word32) (s : State) : Res :=
  onUnit p u s fun _ U =>
    if U.hasIrqAssert then .refused .irqAssertSemantics else .refused .irqAssertAbsent

/-- R233: every level entry that holds the vector is released. -/
def execIoxEoiSt4 (p u : Nat) (w : Word32) (s : State) : Res :=
  onUnit p u s fun _ U =>
    if U.hasIoEoi = false then .refused .ioEoiAbsent
    else if w.extractLsb' 8 24 ≠ 0 then .refused .ioEoiAbove8Bits
    else .next (s.setUnit u { U with entries := U.entries.map (Entry.ioEoi (w.extractLsb' 0 8)) })

/-- R224. -/
def execIoxWinLd4Ver (p u : Nat) (s : State) : Res :=
  onWindow p u 1 s fun P U => .next (s.setProc p (P.deliver ((packVersion U).setWidth 64)))

/-- R225: refused. -/
def execIoxWinSt4Ver (p u : Nat) (_w : Word32) (s : State) : Res :=
  onWindow p u 1 s fun _ _ => .refused .storeToVersion

/-- R226. Bit 14 is drawn. -/
def execIoxWinLd4Rtelo (p u n : Nat) (s : State) : Res :=
  onWindowEntry p u (16 + 2 * n) n s fun P _ E =>
    .next (s.setProc p (P.deliver ((packRteLo E (Config.freeWord s.draws)).setWidth 64))).tick

/-- R227. One choose is used, needed or not. -/
def execIoxWinSt4Rtelo (p u n : Nat) (w : Word32) (s : State) : Res :=
  onWindowEntry p u (16 + 2 * n) n s fun _ U E =>
    match rteLoCheck w with
    | some r => .refused r
    | none =>
      match E.storeLo w (Config.freeBool s.draws) with
      | .error r => .refused r
      | .ok E' => .next (s.setUnit u (U.setEntry n E')).tick

/-- R228. -/
def execIoxWinLd4Rtehi (p u n : Nat) (s : State) : Res :=
  onWindowEntry p u (17 + 2 * n) n s fun P _ E =>
    .next (s.setProc p (P.deliver ((packRteHi E).setWidth 64)))

/-- R229. -/
def execIoxWinSt4Rtehi (p u n : Nat) (w : Word32) (s : State) : Res :=
  onWindowEntry p u (17 + 2 * n) n s fun _ U E =>
    if w.extractLsb' 0 16 ≠ 0 then .refused .ioxReservedField
    else .next (s.setUnit u (U.setEntry n (E.withHi w)))

/-- R231: refused. -/
def execIoxWinLd4Undef (p u : Nat) (x : Byte) (s : State) : Res :=
  onWindow p u x.toNat s fun _ _ => .refused .undefinedInternalRegister

/-- R231: refused. -/
def execIoxWinSt4Undef (p u : Nat) (x : Byte) (_w : Word32) (s : State) : Res :=
  onWindow p u x.toNat s fun _ _ => .refused .undefinedInternalRegister

end Sys2Proof.Machine
end

