-- ==== Sys2Proof/Machine/Messages.lean ====
section
/-! DEFINITION. Receipt of a message by a processor (`43_message_delivery.md` R312, R315 to R320). The
trigger field of the message plays no part (R321). -/

namespace Sys2Proof.Machine

/-- R315. -/
def execMsgInt (q : Nat) (m : MsgBody) (s : State) : Res :=
  receiveMsg q (m.msg DMode.int) s (Proc.pendInt m.vector)

/-- R318. -/
def execMsgPmi (q : Nat) (m : MsgBody) (s : State) : Res :=
  receiveMsg q (m.msg DMode.pmi) s (Proc.pendPmi m.vector)

/-- R316. -/
def execMsgNmi (q : Nat) (m : MsgBody) (s : State) : Res :=
  receiveMsg q (m.msg DMode.nmi) s fun Q => .ok Q.pendNmi

/-- R319. -/
def execMsgInit (q : Nat) (m : MsgBody) (s : State) : Res :=
  receiveMsg q (m.msg DMode.init) s fun Q => .ok Q.pendInit

/-- R317. -/
def execMsgExtint (q : Nat) (m : MsgBody) (s : State) : Res :=
  receiveMsg q (m.msg DMode.extInt) s fun Q => .ok Q.pendExtInt

/-- R320: refused. -/
def execMsgUndef001 (q : Nat) (m : MsgBody) (s : State) : Res :=
  receiveMsg q (m.msg DMode.intHint) s fun _ => .error .undefinedDeliveryMode

/-- R320: refused. -/
def execMsgUndef011 (q : Nat) (m : MsgBody) (s : State) : Res :=
  receiveMsg q (m.msg DMode.undef011) s fun _ => .error .undefinedDeliveryMode

/-- R320: refused. -/
def execMsgUndef110 (q : Nat) (m : MsgBody) (s : State) : Res :=
  receiveMsg q (m.msg DMode.undef110) s fun _ => .error .undefinedDeliveryMode

end Sys2Proof.Machine
end

