-- ==== Sys2Proof/Machine/Pib.lean ====
section
/-! DEFINITION. Operations on the Processor Interrupt Block (`42_pib_ops.md` R260 to R266), at the
addresses of the platform's own PIB. -/

namespace Sys2Proof.Machine

/-- The check of the IPI datum (R134, R261): reserved and zero bits, then the mode. -/
def ipiDatumCheck (d : Word64) : Option Refusal :=
  if d.extractLsb' 11 53 ≠ 0 then some .ipiReservedField
  else if dmUndefined (d.extractLsb' 8 3) then some .undefinedDeliveryMode
  else none

/-- R261. One draw is used, for the bus of a destination no processor holds (R304). -/
def execIpiSt8 (p : Nat) (a d : Word64) (s : State) : Res :=
  software p s fun _ =>
    match pibOffset s.plat a with
    | none => .refused .notInPib
    | some o =>
      if 0x100000 ≤ o then .refused .undefinedPibAddress
      else if a.extractLsb' 0 3 ≠ 0 then .refused .malformedIpiStore
      else
        match ipiDatumCheck d with
        | some r => .refused r
        | none =>
          match destBus s (ipiMsg a d) with
          | .error r => .refused r
          | .ok b => .next (s.sendSys b (ipiMsg a d)).tick

/-- R262: an invalid operation, refused; no message is sent. -/
def execIpiStBad (p : Nat) (_a : Word64) (_n : Nat) (_d : Word64) (s : State) : Res :=
  software p s fun _ => .refused .malformedIpiStore

/-- R263: an invalid operation, refused. -/
def execIpiLd (p : Nat) (_a : Word64) (_n : Nat) (s : State) : Res :=
  software p s fun _ => .refused .loadFromDeliveryArea

/-- R264: no effect on a platform without redirection; else the register of the issuing processor. -/
def execXtpSt1 (p : Nat) (a : Word64) (b : Byte) (s : State) : Res :=
  software p s fun P =>
    if pibOffset s.plat a = some s.plat.xtpOffset then
      if s.plat.hasIoRedirect ∨ s.plat.hasIpiRedirect then .next (s.setProc p { P with xtp := b })
      else .next s
    else .refused .undefinedPibAddress

/-- R265: the vector is the external controller's answer, a draw from the environment (D33). -/
def execIntaLd1 (p : Nat) (a : Word64) (s : State) : Res :=
  software p s fun P =>
    if pibOffset s.plat a = some s.plat.intaOffset then
      if s.plat.has8259 then
        .next (s.setProc p (P.deliver ((Config.freeInta s.draws).setWidth 64))).tick
      else .refused .noExternalController
    else .refused .undefinedPibAddress

/-- R266. -/
def execPibUndef (p : Nat) (_a : Word64) (_n : Nat) (_store : Bool) (_d : Word64) (s : State) : Res :=
  software p s fun _ => .refused .undefinedPibAddress

end Sys2Proof.Machine
end

