-- ==== Sys2Proof/Machine/Psr.lean ====
section
/-! DEFINITION. Serialization, the PSR bits, return from interruption (`40_local_sapic_ops.md` R184 to
R189). -/

namespace Sys2Proof.Machine

/-- R184. A queued EOI that finds nothing in service is refused (R170, D7). -/
def execSrlzD (p : Nat) (s : State) : Res :=
  software p s fun P =>
    match P.serialize with
    | none => .refused .eoiNothingInService
    | some P' => .next (s.setProc p P')

/-- R185. -/
def execSsmI (p : Nat) (s : State) : Res :=
  software p s fun P => .next (s.setProc p { P with psrI := P.psrI.write true })

/-- R186. -/
def execRsmI (p : Nat) (s : State) : Res :=
  software p s fun P => .next (s.setProc p { P with psrI := P.psrI.write false })

/-- R187. -/
def execSsmIc (p : Nat) (s : State) : Res :=
  software p s fun P => .next (s.setProc p { P with psrIc := P.psrIc.write true })

/-- R189. -/
def execRfi (p : Nat) (s : State) : Res :=
  software p s fun P => .next (s.setProc p P.returnFromInterruption)

end Sys2Proof.Machine
end

