-- ==== Sys2Proof/Machine/Dispatch.lean ====
section
/-! DEFINITION. One arm per constructor of Instr: each calls its meaning. -/

namespace Sys2Proof.Machine

def exec (i : Instr) (s : State) : Host.Outcome State Fault Refusal :=
  match i with
  | .movFromLid p => Sys2Proof.Machine.execMovFromLid p s
  | .movToLid p w => Sys2Proof.Machine.execMovToLid p w s
  | .movFromIrr0 p => Sys2Proof.Machine.execMovFromIrr0 p s
  | .movFromIrr1 p => Sys2Proof.Machine.execMovFromIrr1 p s
  | .movFromIrr2 p => Sys2Proof.Machine.execMovFromIrr2 p s
  | .movFromIrr3 p => Sys2Proof.Machine.execMovFromIrr3 p s
  | .movToIrr0 p w => Sys2Proof.Machine.execMovToIrr0 p w s
  | .movToIrr1 p w => Sys2Proof.Machine.execMovToIrr1 p w s
  | .movToIrr2 p w => Sys2Proof.Machine.execMovToIrr2 p w s
  | .movToIrr3 p w => Sys2Proof.Machine.execMovToIrr3 p w s
  | .movFromIvr p => Sys2Proof.Machine.execMovFromIvr p s
  | .movToIvr p w => Sys2Proof.Machine.execMovToIvr p w s
  | .movToEoi p w => Sys2Proof.Machine.execMovToEoi p w s
  | .movFromEoi p => Sys2Proof.Machine.execMovFromEoi p s
  | .movFromTpr p => Sys2Proof.Machine.execMovFromTpr p s
  | .movToTpr p w => Sys2Proof.Machine.execMovToTpr p w s
  | .movFromItv p => Sys2Proof.Machine.execMovFromItv p s
  | .movToItv p w => Sys2Proof.Machine.execMovToItv p w s
  | .movFromPmv p => Sys2Proof.Machine.execMovFromPmv p s
  | .movToPmv p w => Sys2Proof.Machine.execMovToPmv p w s
  | .movFromCmcv p => Sys2Proof.Machine.execMovFromCmcv p s
  | .movToCmcv p w => Sys2Proof.Machine.execMovToCmcv p w s
  | .movFromLrr0 p => Sys2Proof.Machine.execMovFromLrr0 p s
  | .movToLrr0 p w => Sys2Proof.Machine.execMovToLrr0 p w s
  | .movFromLrr1 p => Sys2Proof.Machine.execMovFromLrr1 p s
  | .movToLrr1 p w => Sys2Proof.Machine.execMovToLrr1 p w s
  | .srlzD p => Sys2Proof.Machine.execSrlzD p s
  | .ssmI p => Sys2Proof.Machine.execSsmI p s
  | .rsmI p => Sys2Proof.Machine.execRsmI p s
  | .ssmIc p => Sys2Proof.Machine.execSsmIc p s
  | .rfi p => Sys2Proof.Machine.execRfi p s
  | .ipiSt8 p a d => Sys2Proof.Machine.execIpiSt8 p a d s
  | .ipiStBad p a n d => Sys2Proof.Machine.execIpiStBad p a n d s
  | .ipiLd p a n => Sys2Proof.Machine.execIpiLd p a n s
  | .xtpSt1 p a b => Sys2Proof.Machine.execXtpSt1 p a b s
  | .intaLd1 p a => Sys2Proof.Machine.execIntaLd1 p a s
  | .pibUndef p a n store d => Sys2Proof.Machine.execPibUndef p a n store d s
  | .ioxSelSt4 p u w => Sys2Proof.Machine.execIoxSelSt4 p u w s
  | .ioxSelLd4 p u => Sys2Proof.Machine.execIoxSelLd4 p u s
  | .ioxIrqaSt4 p u w => Sys2Proof.Machine.execIoxIrqaSt4 p u w s
  | .ioxEoiSt4 p u w => Sys2Proof.Machine.execIoxEoiSt4 p u w s
  | .ioxWinLd4Ver p u => Sys2Proof.Machine.execIoxWinLd4Ver p u s
  | .ioxWinSt4Ver p u w => Sys2Proof.Machine.execIoxWinSt4Ver p u w s
  | .ioxWinLd4Rtelo p u n => Sys2Proof.Machine.execIoxWinLd4Rtelo p u n s
  | .ioxWinSt4Rtelo p u n w => Sys2Proof.Machine.execIoxWinSt4Rtelo p u n w s
  | .ioxWinLd4Rtehi p u n => Sys2Proof.Machine.execIoxWinLd4Rtehi p u n s
  | .ioxWinSt4Rtehi p u n w => Sys2Proof.Machine.execIoxWinSt4Rtehi p u n w s
  | .ioxWinLd4Undef p u x => Sys2Proof.Machine.execIoxWinLd4Undef p u x s
  | .ioxWinSt4Undef p u x w => Sys2Proof.Machine.execIoxWinSt4Undef p u x w s
  | .msgInt q m => Sys2Proof.Machine.execMsgInt q m s
  | .msgPmi q m => Sys2Proof.Machine.execMsgPmi q m s
  | .msgNmi q m => Sys2Proof.Machine.execMsgNmi q m s
  | .msgInit q m => Sys2Proof.Machine.execMsgInit q m s
  | .msgExtint q m => Sys2Proof.Machine.execMsgExtint q m s
  | .msgUndef001 q m => Sys2Proof.Machine.execMsgUndef001 q m s
  | .msgUndef011 q m => Sys2Proof.Machine.execMsgUndef011 q m s
  | .msgUndef110 q m => Sys2Proof.Machine.execMsgUndef110 q m s

end Sys2Proof.Machine
end

