-- ==== Sys2Proof/Machine/Run.lean ====
section
/-! DEFINITION. One move of one agent (`00_scope.md` R17), and what the host's table words need. -/

namespace Sys2Proof.Machine

/-- A load or store by physical address: the operation it is, or an access of memory. -/
def runAccess (x : Access) (s : State) : Res :=
  match claim x s with
  | .instr i => exec i s
  | .memory => memoryAccess x s
  | .nowhere => software x.p s fun _ => .fault (.noSuchAddress x.addr.toNat)
  | .refuse r => software x.p s fun _ => .refused r

/-- The operation that words spell, executed. -/
def runWords (ws : List Word64) (s : State) : Res :=
  match decodeAt s.plat ws with
  | .ok i => exec i s
  | .error e => .refused (.undecodable e)

/-- One move. -/
def runMove (mv : Move) (s : State) : Res :=
  match mv with
  | .op ws => runWords ws s
  | .access x => runAccess x s
  | .receive q m => exec (recvInstr q m) s
  | .settle p x => settle p x s
  | .accept p => accept p s
  | .takePmi p v => takePmi p v s
  | .takeInit p => takeInit p s
  | .sampleLint p k => sampleLint p k s
  | .samplePin u n => samplePin u n s
  | .send u n => sendEntry u n s
  | .bridge m => bridge m s
  | .ipiHint b m => ipiHint b m s
  | .drop b m => dropMsg b m s
  | .drivePin u n l => drivePin u n l s
  | .driveLint p k l => driveLint p k l s
  | .driveDedicated p k l => driveDedicated p k l s
  | .timerEvent p => timerEvent p s
  | .pmuEvent p => pmuEvent p s
  | .cmcEvent p => cmcEvent p s
  | .ioBusWrite ad d => ioBusWrite ad d s
  | .deviceMsg m => deviceMsg m s
  | .deviceData ad n d => deviceData ad.toNat n d s
  | .land k => land k s
  | .perform k l => perform k l s
  | .ioBusRead ad => ioBusRead ad s
  | .writeIpsr p v => writeIpsr p v s

/-- The message is put on the bus of processor `q`. -/
def State.withMsg (s : State) (q : Nat) (m : Msg) : State :=
  match s.procs[q]? with
  | none => s
  | some Q => { s with sysBus := (Q.bus, m) :: s.sysBus }

/-- The unit selects index `x`. -/
def State.withSel (s : State) (u : Nat) (x : Byte) : State :=
  match s.units[u]? with
  | none => s
  | some U => s.setUnit u { U with sel := x }

/-- A table row's operation, in the words of the platform of the state (the row's own words, if they are
no operation). -/
def State.rowWords (s : State) (nbits w : Nat) : List Word64 :=
  match decodeTableWord nbits w with
  | some i => encodeAt s.plat i
  | none => tableWords nbits w

/-- What a table row's operation finds in the state when it is the next to run: a message is on the bus
of its receiver; a window access is of the index its unit selects. Nothing else changes. -/
def State.prepare (s : State) (ws : List Word64) : State :=
  match decodeAt s.plat ws with
  | .ok (.msgInt q m) => s.withMsg q (m.msg DMode.int)
  | .ok (.msgPmi q m) => s.withMsg q (m.msg DMode.pmi)
  | .ok (.msgNmi q m) => s.withMsg q (m.msg DMode.nmi)
  | .ok (.msgInit q m) => s.withMsg q (m.msg DMode.init)
  | .ok (.msgExtint q m) => s.withMsg q (m.msg DMode.extInt)
  | .ok (.msgUndef001 q m) => s.withMsg q (m.msg DMode.intHint)
  | .ok (.msgUndef011 q m) => s.withMsg q (m.msg DMode.undef011)
  | .ok (.msgUndef110 q m) => s.withMsg q (m.msg DMode.undef110)
  | .ok (.ioxWinLd4Ver _ u) => s.withSel u 1
  | .ok (.ioxWinSt4Ver _ u _) => s.withSel u 1
  | .ok (.ioxWinLd4Rtelo _ u n) => s.withSel u (BitVec.ofNat 8 (16 + 2 * n))
  | .ok (.ioxWinSt4Rtelo _ u n _) => s.withSel u (BitVec.ofNat 8 (16 + 2 * n))
  | .ok (.ioxWinLd4Rtehi _ u n) => s.withSel u (BitVec.ofNat 8 (17 + 2 * n))
  | .ok (.ioxWinSt4Rtehi _ u n _) => s.withSel u (BitVec.ofNat 8 (17 + 2 * n))
  | .ok (.ioxWinLd4Undef _ u x) => s.withSel u x
  | .ok (.ioxWinSt4Undef _ u x _) => s.withSel u x
  | _ => s

end Sys2Proof.Machine
end

