-- ==== Sys2Proof/Machine/Step.lean ====
section
/-! DEFINITION. The step: the agenda's head is taken from it and done. With an empty agenda no agent
moves and the state stays as it is: the source defines no halt and no end of a run (R19; log 2). A state
in which two processors hold the destination of a message in flight is refused (R314; log 18). -/

namespace Sys2Proof.Machine

def step (s : State) : Host.Outcome State Fault Refusal :=
  if s.duplicateHeld then .refused .duplicateLids
  else
    match s.agenda with
    | [] => .next s
    | mv :: rest => runMove mv { s with agenda := rest }

/-- `s` with a table row's operation as its next move, and what that operation finds (log 33). -/
def State.withFetchWord (s : State) (nbits w : Nat) : State :=
  ({ s with agenda := .op (s.rowWords nbits w) :: s.agenda }).prepare (s.rowWords nbits w)

end Sys2Proof.Machine
end

