-- ==== Sys2Proof/Safety.lean ====
section
/-! DEFINITION. What statements speak of: who runs, the launch premises of `10_state.md` R65, and the
invariant that every step keeps. -/

namespace Sys2Proof.Machine

/-! ### Who runs -/

/-- Processor `p` is `P` and its software flow has not ended (R343, R383). -/
def Running (s : State) (p : Nat) (P : Proc) : Prop := s.procs[p]? = some P ∧ P.flow = .running

/-- Unit `u` is `U` and selects the internal register of index `x` (R41). -/
def Selects (s : State) (u : Nat) (U : IoUnit) (x : Nat) : Prop :=
  s.units[u]? = some U ∧ U.sel.toNat = x

/-- Message `m` is on the bus of processor `q`, which is `Q`, without the hint, and `Q` alone holds its
destination (R312, R314). -/
def Arrives (s : State) (q : Nat) (Q : Proc) (m : Msg) : Prop :=
  s.procs[q]? = some Q ∧ (Q.bus, m) ∈ s.sysBus ∧ m.h = false ∧ s.holders m = [Q]

/-- The state after `Q` received `m` and became `Q'`. -/
def State.received (s : State) (q : Nat) (Q Q' : Proc) (m : Msg) : State :=
  { s.setProc q Q' with sysBus := s.sysBus.erase (Q.bus, m) }

/-- Unit `u` is `U` and its entry `n` is `E` (R46). -/
def HasEntry (s : State) (u n : Nat) (U : IoUnit) (E : Entry) : Prop :=
  s.units[u]? = some U ∧ U.entries[n]? = some E

/-- The state whose unit `u`, before `U`, has `E` as its entry `n`, after one draw. -/
def State.withEntry (s : State) (u n : Nat) (U : IoUnit) (E : Entry) : State :=
  (s.setUnit u (U.setEntry n E)).tick

/-- The vectors in service (R24). -/
def Proc.inService (P : Proc) : List Nat :=
  (List.range 256).filter fun v => decide (reportable v) && P.insvc.getLsbD v

/-- The operation that a move is, if it is one (R145). -/
def Move.operation (s : State) : Move → Option Instr
  | .op ws => (decodeAt s.plat ws).toOption
  | .access x =>
    match claim x s with
    | .instr i => some i
    | _ => none
  | .receive q m => some (recvInstr q m)
  | _ => none

/-- The next move is `mv`. -/
def State.doing (s : State) (mv : Move) : Prop := s.agenda.head? = some mv

/-- The next move is the operation `i`. -/
def State.performs (s : State) (i : Instr) : Prop := ∃ mv, s.doing mv ∧ mv.operation s = some i

end Sys2Proof.Machine

namespace Sys2Proof

/-- The processor whose software agent issues an operation; none for the receipt of a message. -/
def Instr.issuer : Instr → Option Nat
  | .movFromLid p => some p
  | .movToLid p _ => some p
  | .movFromIrr0 p => some p
  | .movFromIrr1 p => some p
  | .movFromIrr2 p => some p
  | .movFromIrr3 p => some p
  | .movToIrr0 p _ => some p
  | .movToIrr1 p _ => some p
  | .movToIrr2 p _ => some p
  | .movToIrr3 p _ => some p
  | .movFromIvr p => some p
  | .movToIvr p _ => some p
  | .movToEoi p _ => some p
  | .movFromEoi p => some p
  | .movFromTpr p => some p
  | .movToTpr p _ => some p
  | .movFromItv p => some p
  | .movToItv p _ => some p
  | .movFromPmv p => some p
  | .movToPmv p _ => some p
  | .movFromCmcv p => some p
  | .movToCmcv p _ => some p
  | .movFromLrr0 p => some p
  | .movToLrr0 p _ => some p
  | .movFromLrr1 p => some p
  | .movToLrr1 p _ => some p
  | .srlzD p => some p
  | .ssmI p => some p
  | .rsmI p => some p
  | .ssmIc p => some p
  | .rfi p => some p
  | .ipiSt8 p _ _ => some p
  | .ipiStBad p _ _ _ => some p
  | .ipiLd p _ _ => some p
  | .xtpSt1 p _ _ => some p
  | .intaLd1 p _ => some p
  | .pibUndef p _ _ _ _ => some p
  | .ioxSelSt4 p _ _ => some p
  | .ioxSelLd4 p _ => some p
  | .ioxIrqaSt4 p _ _ => some p
  | .ioxEoiSt4 p _ _ => some p
  | .ioxWinLd4Ver p _ => some p
  | .ioxWinSt4Ver p _ _ => some p
  | .ioxWinLd4Rtelo p _ _ => some p
  | .ioxWinSt4Rtelo p _ _ _ => some p
  | .ioxWinLd4Rtehi p _ _ => some p
  | .ioxWinSt4Rtehi p _ _ _ => some p
  | .ioxWinLd4Undef p _ _ => some p
  | .ioxWinSt4Undef p _ _ _ => some p
  | .msgInt _ _ => none
  | .msgPmi _ _ => none
  | .msgNmi _ _ => none
  | .msgInit _ _ => none
  | .msgExtint _ _ => none
  | .msgUndef001 _ _ => none
  | .msgUndef011 _ _ => none
  | .msgUndef110 _ _ => none

/-- A platform of R7: the PIB has bits 19:0 zero and lies below `2^63` (R80, R133), the two bytes of
its upper 1 MB are two (R83), and different control registers have different numbers (R140). -/
def Platform.Wf (c : Platform) : Prop :=
  c.pibBase.extractLsb' 0 20 = 0 ∧ c.pibBase.toNat + 0x200000 ≤ 2 ^ 63 ∧
    0x100000 ≤ c.xtpOffset ∧ c.xtpOffset < 0x200000 ∧
    0x100000 ≤ c.intaOffset ∧ c.intaOffset < 0x200000 ∧ c.xtpOffset ≠ c.intaOffset ∧
    c.crIndex.Distinct

/-- Parameters that R7 allows: 1 to 65536 processors, whose buses `ID_BUS_BITS` of their identifiers
tell; 1 unit or more, each at an address of its own inside the physical memory space (R54, R80; the
window's size: log 23), of 1 to 120 entries and a SAPIC version. -/
structure Params.Ok (c : Params) : Prop where
  plat : c.plat.Wf
  procs : 1 ≤ c.procs.length ∧ c.procs.length ≤ 65536
  buses : ∀ P ∈ c.procs, ∀ Q ∈ c.procs,
    P.lid0 &&& c.plat.idBusBits = Q.lid0 &&& c.plat.idBusBits → P.bus = Q.bus
  units : 1 ≤ c.units.length
  bases : c.units.Pairwise fun U V => U.base ≠ V.base
  inside : ∀ U ∈ c.units, U.base.toNat + 256 ≤ 2 ^ 63
  entries : ∀ U ∈ c.units, U.maxRte < 120 ∧ U.version.extractLsb' 4 4 = 2

end Sys2Proof

namespace Sys2Proof.Machine

/-! ### Launch premises (R65) -/

/-- `Quiet(p)`: nothing pending, nothing in service, no queued EOI. -/
def Proc.Quiet (P : Proc) : Prop :=
  P.irr = 0 ∧ P.nmiP = false ∧ P.extP = false ∧ P.initP = false ∧ P.pmiP = 0 ∧ P.insvc = 0 ∧ P.eoiq = 0

/-- `BusesEmpty`. -/
def State.BusesEmpty (s : State) : Prop := s.ioBus = [] ∧ s.sysBus = []

/-- `IdleUnit(u)`. -/
def IoUnit.Idle (U : IoUnit) : Prop := ∀ E ∈ U.entries, E.s = false ∧ E.await = false

/-- `UniqueLIDs`. -/
def State.UniqueLids (s : State) : Prop :=
  s.procs.Pairwise fun P Q => ¬ (P.lid.eff.id = Q.lid.eff.id ∧ P.lid.eff.eid = Q.lid.eff.eid)

/-- The identifiers tell the buses: processors whose effective ID:EID agree in the bits of `ID_BUS_BITS`
are on one bus (R7, R62). -/
def State.LidsTellBuses (s : State) : Prop :=
  ∀ P ∈ s.procs, ∀ Q ∈ s.procs,
    (P.lid.eff.id ++ P.lid.eff.eid : BitVec 16) &&& s.plat.idBusBits =
      (Q.lid.eff.id ++ Q.lid.eff.eid : BitVec 16) &&& s.plat.idBusBits → P.bus = Q.bus

/-! ### The invariant -/

/-- A processor: no vector below 16 is ever pended in the IRR (R22), only the vectors an IVR read can
report are ever in service (R24), and no LRR holds a mode its list does not have (R131, R181). -/
def Proc.Wf (P : Proc) : Prop :=
  (∀ v, v < 16 → P.irr.getLsbD v = false) ∧
  (∀ v, v < 16 → v ≠ 0 → v ≠ 2 → P.insvc.getLsbD v = false) ∧
  dmUndefined P.lrr0.arch.dm = false ∧ dmUndefined P.lrr0.eff.dm = false ∧
  dmUndefined P.lrr1.arch.dm = false ∧ dmUndefined P.lrr1.eff.dm = false

/-- A unit: its window is inside the physical memory space (R54, R80); 1 to 120 entries (R46), a SAPIC
version (R126), and no entry with a mode its list does not have (R131, R227). -/
def IoUnit.Wf (U : IoUnit) : Prop :=
  U.base.toNat + 256 ≤ 2 ^ 63 ∧ 1 ≤ U.entries.length ∧ U.entries.length ≤ 120 ∧ U.version.extractLsb' 4 4 = 2 ∧
    ∀ E ∈ U.entries, dmUndefinedRte E.dm = false

/-- What every step keeps: the platform, every processor and every unit are well-formed, in numbers and
at addresses that R7 allows; every message in flight has a mode that some list has (R131, R320); memory
is in its canonical form; no byte of it, and none of a store or load on its way, is at an address that a
device claims (R84, R260) or that does not exist (R80). -/
structure State.Inv (s : State) : Prop where
  plat : s.plat.Wf
  nproc : 1 ≤ s.procs.length ∧ s.procs.length ≤ 65536
  procs : ∀ P ∈ s.procs, P.Wf
  niox : 1 ≤ s.units.length
  bases : s.units.Pairwise fun U V => U.base ≠ V.base
  units : ∀ U ∈ s.units, U.Wf
  ioBus : ∀ m ∈ s.ioBus, dmUndefined m.dm = false
  sysBus : ∀ x ∈ s.sysBus, dmUndefined x.2.dm = false
  mem : s.mem.wf = true
  outside : ∀ c ∈ s.mem, c.1 < 2 ^ 63 ∧ s.deviceByte c.1 = false
  stores : ∀ x ∈ s.stores, memoryForm x.addr x.width = true ∧ x.addr < 2 ^ 63 ∧
    s.deviceBytes x.addr x.width = false
  loads : ∀ x ∈ s.loads, x.p < s.procs.length ∧ memoryForm x.addr x.width = true ∧ x.addr < 2 ^ 63 ∧
    s.deviceBytes x.addr x.width = false

end Sys2Proof.Machine
end

