-- ==== Sys2Proof/Certificates/Slice0/Obligations.lean ====
section
/-! DEFINITION. The statements about the machine. `Running s p P` says that processor `p` of state `s` is
`P` and its software flow has not ended; a full state equation says the frame: what it does not name is
as before. `tick` counts one draw (log 9); `result` holds what an operation delivers (log 11). -/

section

open Sys2Proof Sys2Proof.Machine

/-! ### Words -/

/-- On every platform every well-formed operation is read back from its words. The words are the model's
own (log 1), the numbers of the control registers those of the platform (log 7). -/
def Obligations.DecodeOfEncode : Prop :=
  ∀ (c : Platform) (i : Instr), c.crIndex.Distinct → i.wellFormedAt c = true →
    decodeAt c (encodeAt c i) = .ok i

/-- Whatever decodes on a platform is well-formed there, and its words are the only ones it has (log 1). -/
def Obligations.EncodeOfDecode : Prop :=
  ∀ (c : Platform) (ws : List Word64) (i : Instr), decodeAt c ws = .ok i →
    i.wellFormedAt c = true ∧ encodeAt c i = ws

/-- A few words, from the keys of R145 and the vectors V30 and P1 to P3 of `95_test_vectors.md`. -/
def Obligations.SampleWordsDecode : Prop :=
  decode [0x40, 0x12340000, 2, 8, 3, 0] = .ok (.movToLid 3 0x12340000) ∧
  decode [65, 0, 1, 8, 1, 0] = .ok (.movFromIvr 1) ∧
  decode [0, 0, 4, 0, 1, 0] = .ok (.srlzD 1) ∧
  decode [0xFEE12340, 0x80, 6, 8, 0, 0] = .ok (.ipiSt8 0 0xFEE12340 0x80) ∧
  decode [0xFEE12344, 0x80, 6, 8, 0, 0] = .ok (.ipiStBad 0 0xFEE12344 8 0x80) ∧
  decode [0x40, 0x61, 11, 4, 1, 2] = .ok (.ioxEoiSt4 1 2 0x61) ∧
  decode [0x16, 0x18061, 13, 4, 0, 0] = .ok (.ioxWinSt4Rtelo 0 0 3 0x18061) ∧
  decode [0x2B, 0, 12, 4, 0, 0] = .ok (.ioxWinLd4Rtehi 0 0 13) ∧
  decode [0x8061, 0x12348, 14, 0, 1, 0] =
    .ok (.msgInt 1 { id := 0x12, eid := 0x34, h := true, vector := 0x61, t := true }) ∧
  decode [0x300, 0, 14, 0, 1, 0] =
    .ok (.msgUndef011 1 { id := 0, eid := 0, h := false, vector := 0, t := false })

/-- R133 to R137: both spellings of a message, an IPI store and an I/O bus write, spell it back; the I/O
bus spelling of mode `001` is read as `000`; the address is aligned and inside the delivery area. -/
def Obligations.MessageSpellings : Prop :=
  ∀ (base : Word64) (m : Msg), base.extractLsb' 0 20 = 0 →
    ipiMsg (ipiAddress base m.id m.eid m.h) (ipiDatum m.dm m.vector) = { m with t := false } ∧
    ioBusMsg (busAddress base m) (busData m) =
      { m with dm := if m.dm = 0b001#3 then 0b000#3 else m.dm } ∧
    (ipiAddress base m.id m.eid m.h).extractLsb' 0 3 = 0 ∧
    (ipiAddress base m.id m.eid m.h).extractLsb' 20 44 = base.extractLsb' 20 44

/-! ### The step -/

/-- When the words of the next move decode to `i`, the step is `exec i` on the state with the move
taken from the agenda; a message's receipt and an access that is an operation likewise. Every other move
is done on that state too; with no move the state stays as it is; words that are no operation are
refused. While two processors hold the destination of a message in flight every step is refused (R314;
log 18). The agenda is the model's own (log 2). -/
def Obligations.StepRunsTheOperation : Prop :=
  (∀ s : State, s.duplicateHeld = true → step s = .refused .duplicateLids) ∧
  (∀ s : State, s.duplicateHeld = false →
    (s.agenda = [] → step s = .next s) ∧
    (∀ (mv : Move) (rest : List Move), s.agenda = mv :: rest →
      step s = runMove mv { s with agenda := rest }) ∧
    (∀ (ws : List Word64) (rest : List Move) (i : Instr), s.agenda = .op ws :: rest →
      decodeAt s.plat ws = .ok i → step s = exec i { s with agenda := rest }) ∧
    (∀ (q : Nat) (m : Msg) (rest : List Move), s.agenda = .receive q m :: rest →
      step s = exec (recvInstr q m) { s with agenda := rest }) ∧
    (∀ (x : Access) (rest : List Move) (i : Instr), s.agenda = .access x :: rest →
      claim x s = .instr i → step s = exec i { s with agenda := rest }) ∧
    (∀ (ws : List Word64) (rest : List Move) (e : DecodeError), s.agenda = .op ws :: rest →
      decodeAt s.plat ws = .error e → step s = .refused (.undecodable e)))

/-- What an access to the PIB is: the delivery area is its lower 1 MB, and takes aligned 8-byte stores
alone; of the upper 1 MB the XTP byte takes 1-byte stores and the INTA byte 1-byte loads. At an address that
is also in a unit's window the spec does not say which device claims; that the PIB does is the model's
choice (log 23). -/
def Obligations.PibAddressMap : Prop :=
  ∀ (s : State) (x : Access), s.plat.Wf → s.plat.pibBase.toNat ≤ x.addr.toNat →
    x.addr.toNat < s.plat.pibBase.toNat + 0x200000 →
    (x.cacheable = true → claim x s = .refuse .cacheableDeviceAccess) ∧
    (x.cacheable = false →
      (x.addr.toNat < s.plat.pibBase.toNat + 0x100000 →
        (x.store = true → x.width = 8 → x.addr.toNat % 8 = 0 →
          claim x s = .instr (.ipiSt8 x.p x.addr x.data)) ∧
        (x.store = true → ¬ (x.width = 8 ∧ x.addr.toNat % 8 = 0) →
          claim x s = .instr (.ipiStBad x.p x.addr x.width x.data)) ∧
        (x.store = false → claim x s = .instr (.ipiLd x.p x.addr x.width))) ∧
      (s.plat.pibBase.toNat + 0x100000 ≤ x.addr.toNat →
        (x.addr.toNat = s.plat.pibBase.toNat + s.plat.xtpOffset → x.width = 1 → x.store = true →
          claim x s = .instr (.xtpSt1 x.p x.addr (x.data.setWidth 8))) ∧
        (x.addr.toNat = s.plat.pibBase.toNat + s.plat.intaOffset → x.width = 1 → x.store = false →
          claim x s = .instr (.intaLd1 x.p x.addr)) ∧
        (¬ (x.addr.toNat = s.plat.pibBase.toNat + s.plat.xtpOffset ∧ x.width = 1 ∧ x.store = true) →
          ¬ (x.addr.toNat = s.plat.pibBase.toNat + s.plat.intaOffset ∧ x.width = 1 ∧ x.store = false) →
          claim x s = .instr (.pibUndef x.p x.addr x.width x.store x.data))))

/-- What an access to the window of a unit is, if no other unit's window holds the address and it is not
in the PIB (who claims an address of two is the model's choice, log 23): by offset, and behind the I/O
Window by the index the unit selects. Index 1 is Version; `0x10 + 2n` and `0x11 + 2n` are the halves of
an entry the unit has; every other index is undefined (R127, R224 to R231). The window's size of 256
bytes is the model's (log 23). At or above `2^63` there is neither device nor memory (R54, R80); the rules
give such an access no outcome, and that it is the fault `noSuchAddress` is the model's choice (log 25); so is
the refusal of a cacheable access: the rules require an uncacheable one and say no more (log 39). -/
def Obligations.IoxAddressMap : Prop :=
  (∀ (s : State) (x : Access) (u : Nat) (U : IoUnit), s.units[u]? = some U →
    (∀ (k : Nat) (V : IoUnit), s.units[k]? = some V → V.claims x.addr.toNat = true → k = u) →
    U.base.toNat ≤ x.addr.toNat → x.addr.toNat < U.base.toNat + 256 → x.addr.toNat < 2 ^ 63 →
    pibOffset s.plat x.addr = none →
    (x.cacheable = true → claim x s = .refuse .cacheableDeviceAccess) ∧
    (x.cacheable = false → ¬ (x.width = 4 ∧ x.addr.toNat % 4 = 0) →
      claim x s = .refuse .partialIoxAccess) ∧
    (x.cacheable = false → x.width = 4 → x.addr.toNat % 4 = 0 →
      (x.addr.toNat = U.base.toNat → claim x s = .instr (if x.store then
          .ioxSelSt4 x.p u (x.data.setWidth 32) else .ioxSelLd4 x.p u)) ∧
      (x.addr.toNat = U.base.toNat + 0x10 →
        claim x s = .instr (windowInstr x.p u U x.store (x.data.setWidth 32))) ∧
      (x.addr.toNat = U.base.toNat + 0x20 → x.store = true →
        claim x s = .instr (.ioxIrqaSt4 x.p u (x.data.setWidth 32))) ∧
      (x.addr.toNat = U.base.toNat + 0x40 → x.store = true →
        claim x s = .instr (.ioxEoiSt4 x.p u (x.data.setWidth 32))) ∧
      (x.addr.toNat ≠ U.base.toNat → x.addr.toNat ≠ U.base.toNat + 0x10 →
        ¬ (x.addr.toNat = U.base.toNat + 0x20 ∧ x.store = true) →
        ¬ (x.addr.toNat = U.base.toNat + 0x40 ∧ x.store = true) →
        claim x s = .refuse .undefinedIoxOffset))) ∧
  (∀ (s : State) (x : Access) (P : Proc), Running s x.p P → 2 ^ 63 ≤ x.addr.toNat →
    claim x s = .nowhere ∧ runMove (.access x) s = .fault (.noSuchAddress x.addr.toNat)) ∧
  (∀ (p u n : Nat) (U : IoUnit) (w : Word32),
    (U.sel = 1 → windowInstr p u U false w = .ioxWinLd4Ver p u ∧
      windowInstr p u U true w = .ioxWinSt4Ver p u w) ∧
    (n < U.entries.length → U.sel.toNat = 0x10 + 2 * n →
      windowInstr p u U false w = .ioxWinLd4Rtelo p u n ∧
      windowInstr p u U true w = .ioxWinSt4Rtelo p u n w) ∧
    (n < U.entries.length → U.sel.toNat = 0x11 + 2 * n →
      windowInstr p u U false w = .ioxWinLd4Rtehi p u n ∧
      windowInstr p u U true w = .ioxWinSt4Rtehi p u n w) ∧
    (U.sel ≠ 1 → (∀ k, k < U.entries.length → U.sel.toNat ≠ 0x10 + 2 * k ∧ U.sel.toNat ≠ 0x11 + 2 * k) →
      windowInstr p u U false w = .ioxWinLd4Undef p u U.sel ∧
      windowInstr p u U true w = .ioxWinSt4Undef p u U.sel w))

/-! ### Control registers -/

/-- R161, R162: a LID read delivers the effective copy, a LID write sets the architected one. The layout
is the spec's general knowledge (R123, log 6). -/
def Obligations.LidReadAndWrite : Prop :=
  ∀ (s : State) (p : Nat) (P : Proc) (w : Word64), Running s p P →
    (∃ r : Word64, exec (.movFromLid p) s = .next (s.setProc p { P with result := r }).tick ∧
      r.extractLsb' 24 8 = P.lid.eff.id ∧ r.extractLsb' 16 8 = P.lid.eff.eid ∧
      r.extractLsb' 0 16 = 0) ∧
    (w.extractLsb' 0 16 = 0 → exec (.movToLid p w) s = .next (s.setProc p { P with
      lid := { arch := { id := w.extractLsb' 24 8, eid := w.extractLsb' 16 8 }, eff := P.lid.eff } }))

/-- R163 to R166: the four reads deliver the pending bits, masked or not, and change nothing; bits 15:3
and 1 of IRR0 are 0, bits 2 and 0 are not stated. That bit `j` of IRRk is vector `64k + j` is the spec's
general knowledge (R123, G5), PRESUMED by log 6. -/
def Obligations.IrrReads : Prop :=
  ∀ (s : State) (p : Nat) (P : Proc), Running s p P →
    (∃ r : Word64, exec (.movFromIrr0 p) s = .next (s.setProc p { P with result := r }).tick ∧
      (∀ j, 16 ≤ j → j < 64 → r.getLsbD j = P.irr.getLsbD j) ∧
      (∀ j, j < 16 → j ≠ 0 → j ≠ 2 → r.getLsbD j = false)) ∧
    (∃ r : Word64, exec (.movFromIrr1 p) s = .next (s.setProc p { P with result := r }) ∧
      ∀ j, j < 64 → r.getLsbD j = P.irr.getLsbD (64 + j)) ∧
    (∃ r : Word64, exec (.movFromIrr2 p) s = .next (s.setProc p { P with result := r }) ∧
      ∀ j, j < 64 → r.getLsbD j = P.irr.getLsbD (128 + j)) ∧
    (∃ r : Word64, exec (.movFromIrr3 p) s = .next (s.setProc p { P with result := r }) ∧
      ∀ j, j < 64 → r.getLsbD j = P.irr.getLsbD (192 + j))

/-- R167, R169, R341: a write to IRR0 to IRR3 or IVR raises IllegalOperation; it changes nothing but that
the flow of its processor ends. -/
def Obligations.ReadOnlyWritesRaise : Prop :=
  ∀ (s : State) (p : Nat) (P : Proc) (w : Word64), Running s p P →
    exec (.movToIrr0 p w) s = .next (s.setProc p { P with flow := .faulted .illegalOperation }) ∧
    exec (.movToIrr1 p w) s = .next (s.setProc p { P with flow := .faulted .illegalOperation }) ∧
    exec (.movToIrr2 p w) s = .next (s.setProc p { P with flow := .faulted .illegalOperation }) ∧
    exec (.movToIrr3 p w) s = .next (s.setProc p { P with flow := .faulted .illegalOperation }) ∧
    exec (.movToIvr p w) s = .next (s.setProc p { P with flow := .faulted .illegalOperation })

/-- R340, R344: a write with a 1 in a reserved bit of the layout raises General Exception and does not
take place. The layouts are the spec's general knowledge (R122, R123, log 6). -/
def Obligations.ReservedBitsRaise : Prop :=
  ∀ (s : State) (p j : Nat) (P : Proc) (w : Word64), Running s p P → w.getLsbD j = true →
    (j < 16 →
      exec (.movToLid p w) s = .next (s.setProc p { P with flow := .faulted .generalException })) ∧
    ((8 ≤ j ∧ j < 16) ∨ (17 ≤ j ∧ j < 64) →
      exec (.movToTpr p w) s = .next (s.setProc p { P with flow := .faulted .generalException }) ∧
      exec (.movToItv p w) s = .next (s.setProc p { P with flow := .faulted .generalException }) ∧
      exec (.movToPmv p w) s = .next (s.setProc p { P with flow := .faulted .generalException }) ∧
      exec (.movToCmcv p w) s = .next (s.setProc p { P with flow := .faulted .generalException }))

/-- R168: an IVR read delivers the highest-priority pending unmasked vector, removes its pending
indication and puts it in service, whatever PSR.i is; with none it delivers 15 and changes nothing. That
the vector is bits 7:0 of the value, the rest 0, is the spec's general knowledge (R123, G3), PRESUMED by
log 6; the places of NMI and ExtINT in the order are PRESUMED by log 14. -/
def Obligations.IvrRead : Prop :=
  ∀ (s : State) (p : Nat) (P : Proc), Running s p P →
    (P.hpu = none → exec (.movFromIvr p) s = .next (s.setProc p { P with result := 0x0F })) ∧
    (∀ v, P.hpu = some v → ∃ irr insvc, exec (.movFromIvr p) s = .next (s.setProc p { P with
        nmiP := P.nmiP && decide (v ≠ 2), extP := P.extP && decide (v ≠ 0), irr := irr, insvc := insvc,
        result := BitVec.ofNat 64 v }) ∧
      (∀ j, irr.getLsbD j = if 16 ≤ v ∧ j = v then false else P.irr.getLsbD j) ∧
      (∀ j, insvc.getLsbD j = if j = v then true else P.insvc.getLsbD j))

/-- R170, R171: an EOI write queues one end of interrupt, its value ignored; an EOI read delivers any
value and changes nothing. -/
def Obligations.EoiWriteAndRead : Prop :=
  ∀ (s : State) (p : Nat) (P : Proc) (w : Word64), Running s p P →
    exec (.movToEoi p w) s = .next (s.setProc p { P with eoiq := P.eoiq + 1 }) ∧
    ∃ r : Word64, exec (.movFromEoi p) s = .next (s.setProc p { P with result := r }).tick

/-- R172, R173: a TPR read delivers the effective copy, a TPR write sets the architected one. The layout
is the spec's general knowledge (R123, log 6). -/
def Obligations.TprReadAndWrite : Prop :=
  ∀ (s : State) (p : Nat) (P : Proc) (w : Word64), Running s p P →
    (∃ r : Word64, exec (.movFromTpr p) s = .next (s.setProc p { P with result := r }).tick ∧
      r.extractLsb' 4 4 = P.tpr.eff.mic ∧ r.getLsbD 16 = P.tpr.eff.mmi ∧
      r.extractLsb' 8 8 = 0 ∧ r.extractLsb' 17 47 = 0) ∧
    (w.extractLsb' 8 8 = 0 → w.extractLsb' 17 47 = 0 →
      exec (.movToTpr p w) s = .next (s.setProc p { P with
        tpr := { arch := { mic := w.extractLsb' 4 4, mmi := w.getLsbD 16 }, eff := P.tpr.eff } }))

/-- R174 to R179: the reads of ITV, PMV and CMCV deliver the effective copies; the writes set the
architected copies, whatever the vector. The layout is the spec's inference (R122, log 6). -/
def Obligations.LvrReadAndWrite : Prop :=
  ∀ (s : State) (p : Nat) (P : Proc) (w : Word64), Running s p P →
    (∃ r : Word64, exec (.movFromItv p) s = .next (s.setProc p { P with result := r }) ∧
      r.extractLsb' 0 8 = P.itv.eff.vector ∧ r.getLsbD 16 = P.itv.eff.m ∧
      r.extractLsb' 8 8 = 0 ∧ r.extractLsb' 17 47 = 0) ∧
    (∃ r : Word64, exec (.movFromPmv p) s = .next (s.setProc p { P with result := r }) ∧
      r.extractLsb' 0 8 = P.pmv.eff.vector ∧ r.getLsbD 16 = P.pmv.eff.m ∧
      r.extractLsb' 8 8 = 0 ∧ r.extractLsb' 17 47 = 0) ∧
    (∃ r : Word64, exec (.movFromCmcv p) s = .next (s.setProc p { P with result := r }) ∧
      r.extractLsb' 0 8 = P.cmcv.eff.vector ∧ r.getLsbD 16 = P.cmcv.eff.m ∧
      r.extractLsb' 8 8 = 0 ∧ r.extractLsb' 17 47 = 0) ∧
    (w.extractLsb' 8 8 = 0 → w.extractLsb' 17 47 = 0 →
      exec (.movToItv p w) s = .next (s.setProc p { P with
        itv := { arch := { vector := w.extractLsb' 0 8, m := w.getLsbD 16 }, eff := P.itv.eff } }) ∧
      exec (.movToPmv p w) s = .next (s.setProc p { P with
        pmv := { arch := { vector := w.extractLsb' 0 8, m := w.getLsbD 16 }, eff := P.pmv.eff } }) ∧
      exec (.movToCmcv p w) s = .next (s.setProc p { P with
        cmcv := { arch := { vector := w.extractLsb' 0 8, m := w.getLsbD 16 }, eff := P.cmcv.eff } }))

/-- R180 to R183: the reads of LRR0 and LRR1 deliver the effective copies, whether or not the pins exist;
a write is refused with a 1 in an unlabelled bit, or with a mode the LRR list does not have, and else
sets the architected copy, bits 63:17 ignored. -/
def Obligations.LrrReadAndWrite : Prop :=
  ∀ (s : State) (p : Nat) (P : Proc) (w : Word64), Running s p P →
    (∃ r : Word64, exec (.movFromLrr0 p) s = .next (s.setProc p { P with result := r }).tick ∧
      r.extractLsb' 0 8 = P.lrr0.eff.vector ∧ r.extractLsb' 8 3 = P.lrr0.eff.dm ∧
      r.extractLsb' 11 2 = 0 ∧ r.getLsbD 13 = P.lrr0.eff.ipp ∧ r.getLsbD 14 = false ∧
      r.getLsbD 15 = P.lrr0.eff.tm ∧ r.getLsbD 16 = P.lrr0.eff.m) ∧
    (∃ r : Word64, exec (.movFromLrr1 p) s = .next (s.setProc p { P with result := r }).tick ∧
      r.extractLsb' 0 8 = P.lrr1.eff.vector ∧ r.extractLsb' 8 3 = P.lrr1.eff.dm ∧
      r.extractLsb' 11 2 = 0 ∧ r.getLsbD 13 = P.lrr1.eff.ipp ∧ r.getLsbD 14 = false ∧
      r.getLsbD 15 = P.lrr1.eff.tm ∧ r.getLsbD 16 = P.lrr1.eff.m) ∧
    (w.getLsbD 14 = true ∨ w.extractLsb' 11 2 ≠ 0 →
      exec (.movToLrr0 p w) s = .refused .lrrUnlabelledBits ∧
      exec (.movToLrr1 p w) s = .refused .lrrUnlabelledBits) ∧
    (w.getLsbD 14 = false → w.extractLsb' 11 2 = 0 → w.extractLsb' 8 3 ∈ [0b001#3, 0b011#3, 0b110#3] →
      exec (.movToLrr0 p w) s = .refused .undefinedDeliveryMode ∧
      exec (.movToLrr1 p w) s = .refused .undefinedDeliveryMode) ∧
    (w.getLsbD 14 = false → w.extractLsb' 11 2 = 0 → w.extractLsb' 8 3 ∉ [0b001#3, 0b011#3, 0b110#3] →
      exec (.movToLrr0 p w) s = .next (s.setProc p { P with lrr0 := { eff := P.lrr0.eff, arch :=
        { vector := w.extractLsb' 0 8, dm := w.extractLsb' 8 3, ipp := w.getLsbD 13, tm := w.getLsbD 15,
          m := w.getLsbD 16 } } }) ∧
      exec (.movToLrr1 p w) s = .next (s.setProc p { P with lrr1 := { eff := P.lrr1.eff, arch :=
        { vector := w.extractLsb' 0 8, dm := w.extractLsb' 8 3, ipp := w.getLsbD 13, tm := w.getLsbD 15,
          m := w.getLsbD 16 } } }))

/-! ### Serialization, PSR bits, return -/

/-- R184, R170: `srlz.d` brings every effective copy up to date and applies every queued EOI: of the
vectors in service as many go as EOIs were queued, those of greatest priority. If more EOIs are queued
than vectors in service, it is refused. -/
def Obligations.SerializeSettlesAll : Prop :=
  ∀ (s : State) (p : Nat) (P : Proc), Running s p P →
    (P.inService.length < P.eoiq → exec (.srlzD p) s = .refused .eoiNothingInService) ∧
    (P.eoiq ≤ P.inService.length → ∃ insvc, exec (.srlzD p) s = .next (s.setProc p { P with
        lid := ⟨P.lid.arch, P.lid.arch⟩, tpr := ⟨P.tpr.arch, P.tpr.arch⟩,
        itv := ⟨P.itv.arch, P.itv.arch⟩, pmv := ⟨P.pmv.arch, P.pmv.arch⟩,
        cmcv := ⟨P.cmcv.arch, P.cmcv.arch⟩, lrr0 := ⟨P.lrr0.arch, P.lrr0.arch⟩,
        lrr1 := ⟨P.lrr1.arch, P.lrr1.arch⟩, psrI := ⟨P.psrI.arch, P.psrI.arch⟩,
        psrIc := ⟨P.psrIc.arch, P.psrIc.arch⟩, insvc := insvc, eoiq := 0 }) ∧
      (∀ v, insvc.getLsbD v = true → P.insvc.getLsbD v = true) ∧
      (∀ v, ¬ reportable v → insvc.getLsbD v = P.insvc.getLsbD v) ∧
      (∀ v w, P.insvc.getLsbD v = true → insvc.getLsbD v = false → reportable w →
        insvc.getLsbD w = true → prio w < prio v) ∧
      ({ P with insvc := insvc } : Proc).inService.length + P.eoiq = P.inService.length)

/-- R185 to R187: `ssm.i`, `rsm.i` and `ssm.ic` write the architected copy of their bit, nothing else. -/
def Obligations.PsrBitWrites : Prop :=
  ∀ (s : State) (p : Nat) (P : Proc), Running s p P →
    exec (.ssmI p) s = .next (s.setProc p { P with psrI := { arch := true, eff := P.psrI.eff } }) ∧
    exec (.rsmI p) s = .next (s.setProc p { P with psrI := { arch := false, eff := P.psrI.eff } }) ∧
    exec (.ssmIc p) s = .next (s.setProc p { P with psrIc := { arch := true, eff := P.psrIc.eff } })

/-- R189, R370: `rfi` restores both copies of both bits from IPSR and leaves everything in service. That
it restores them is the spec's general knowledge (log 15); `event` is the model's (log 12). Software may
write IPSR, which a nested handler restores before its `rfi` (R189, R144), by a move of the model's own
(log 28): IPSR takes the value and nothing else changes. -/
def Obligations.ReturnRestoresPsr : Prop :=
  ∀ (s : State) (p : Nat) (P : Proc), Running s p P →
    exec (.rfi p) s = .next (s.setProc p { P with
      psrI := ⟨P.ipsr.i, P.ipsr.i⟩, psrIc := ⟨P.ipsr.ic, P.ipsr.ic⟩, event := .resumed }) ∧
    ∀ v : PsrBits, runMove (.writeIpsr p v) s = .next (s.setProc p { P with ipsr := v })

/-! ### Processor Interrupt Block -/

/-- R261, R134, R131: an aligned 8-byte store in the delivery area with a defined datum sends one message,
edge, to the bus of the processor that holds its destination (to some bus, if none does), and changes
nothing else; a datum with a reserved or zero bit set, or with a mode the IPI list does not have, is
refused. -/
def Obligations.IpiStore : Prop :=
  ∀ (s : State) (p : Nat) (P : Proc) (a d : Word64) (m : Msg), Running s p P →
    s.plat.pibBase.toNat ≤ a.toNat → a.toNat < s.plat.pibBase.toNat + 0x100000 →
    a.extractLsb' 0 3 = 0 →
    m = { id := a.extractLsb' 12 8, eid := a.extractLsb' 4 8, h := a.getLsbD 3,
          dm := d.extractLsb' 8 3, vector := d.extractLsb' 0 8, t := false } →
    (d.extractLsb' 11 53 ≠ 0 → exec (.ipiSt8 p a d) s = .refused .ipiReservedField) ∧
    (d.extractLsb' 11 53 = 0 → m.dm ∈ [0b001#3, 0b011#3, 0b110#3] →
      exec (.ipiSt8 p a d) s = .refused .undefinedDeliveryMode) ∧
    (d.extractLsb' 11 53 = 0 → m.dm ∉ [0b001#3, 0b011#3, 0b110#3] →
      (∀ Q, s.holders m = [Q] →
        exec (.ipiSt8 p a d) s = .next { s with sysBus := s.sysBus ++ [(Q.bus, m)] }.tick) ∧
      (s.holders m = [] →
        ∃ b, exec (.ipiSt8 p a d) s = .next { s with sysBus := s.sysBus ++ [(b, m)] }.tick))

/-- The operations the spec refuses on every path: a malformed store to the delivery area (R262), a load
from it (R263), an undefined access to the upper 1 MB of the PIB (R266), a store to Version (R225), a
window access to an undefined internal register (R231), a store to IRQ Assertion (R232), and a message
of mode `001`, `011` or `110` (R320). No message is sent. -/
def Obligations.AlwaysRefused : Prop :=
  ∀ (s : State) (p n u : Nat) (P : Proc) (U : IoUnit) (a d : Word64) (st : Bool) (x : Byte) (w : Word32)
    (m : MsgBody),
    (Running s p P →
      exec (.ipiStBad p a n d) s = .refused .malformedIpiStore ∧
      exec (.ipiLd p a n) s = .refused .loadFromDeliveryArea ∧
      exec (.pibUndef p a n st d) s = .refused .undefinedPibAddress ∧
      (Selects s u U 0x01 → exec (.ioxWinSt4Ver p u w) s = .refused .storeToVersion) ∧
      (Selects s u U x.toNat →
        exec (.ioxWinLd4Undef p u x) s = .refused .undefinedInternalRegister ∧
        exec (.ioxWinSt4Undef p u x w) s = .refused .undefinedInternalRegister) ∧
      (s.units[u]? = some U → U.hasIrqAssert = true →
        exec (.ioxIrqaSt4 p u w) s = .refused .irqAssertSemantics) ∧
      (s.units[u]? = some U → U.hasIrqAssert = false →
        exec (.ioxIrqaSt4 p u w) s = .refused .irqAssertAbsent)) ∧
    (Arrives s p P (m.msg 0b001#3) → exec (.msgUndef001 p m) s = .refused .undefinedDeliveryMode) ∧
    (Arrives s p P (m.msg 0b011#3) → exec (.msgUndef011 p m) s = .refused .undefinedDeliveryMode) ∧
    (Arrives s p P (m.msg 0b110#3) → exec (.msgUndef110 p m) s = .refused .undefinedDeliveryMode)

/-- R264, R265: an XTP store writes the register of the issuing processor, and does nothing on a platform
without redirection; an INTA load delivers a byte from the environment and changes no SAPIC state, and
is refused without an external controller. -/
def Obligations.XtpStoreAndIntaLoad : Prop :=
  ∀ (s : State) (p : Nat) (P : Proc) (a : Word64) (b : Byte), Running s p P →
    (pibOffset s.plat a = some s.plat.xtpOffset →
      (s.plat.hasIoRedirect = true ∨ s.plat.hasIpiRedirect = true →
        exec (.xtpSt1 p a b) s = .next (s.setProc p { P with xtp := b })) ∧
      (s.plat.hasIoRedirect = false → s.plat.hasIpiRedirect = false →
        exec (.xtpSt1 p a b) s = .next s)) ∧
    (pibOffset s.plat a = some s.plat.intaOffset →
      (s.plat.has8259 = true → ∃ v : Byte,
        exec (.intaLd1 p a) s = .next (s.setProc p { P with result := v.setWidth 64 }).tick) ∧
      (s.plat.has8259 = false → exec (.intaLd1 p a) s = .refused .noExternalController))

/-! ### I/O xAPIC registers -/

/-- R222, R223: a select store of an 8-bit value sets the index, a larger value is refused; a select load
delivers the index. -/
def Obligations.SelectRegister : Prop :=
  ∀ (s : State) (p u : Nat) (P : Proc) (U : IoUnit) (w : Word32), Running s p P → s.units[u]? = some U →
    (w.extractLsb' 8 24 = 0 →
      exec (.ioxSelSt4 p u w) s = .next (s.setUnit u { U with sel := w.extractLsb' 0 8 })) ∧
    (w.extractLsb' 8 24 ≠ 0 → exec (.ioxSelSt4 p u w) s = .refused .selectAbove8Bits) ∧
    exec (.ioxSelLd4 p u) s = .next (s.setProc p { P with result := U.sel.setWidth 64 })

/-- R224, R226: a window load delivers the unit's version and its highest entry number, or the low half of
an entry, whose bit 14 is not stated. -/
def Obligations.VersionAndRteLowRead : Prop :=
  (∀ (s : State) (p u : Nat) (P : Proc) (U : IoUnit), Running s p P → Selects s u U 0x01 →
    ∃ r : Word32, exec (.ioxWinLd4Ver p u) s = .next (s.setProc p { P with result := r.setWidth 64 }) ∧
      r.extractLsb' 0 8 = U.version ∧ r.extractLsb' 8 8 = 0 ∧
      r.extractLsb' 16 8 = BitVec.ofNat 8 (U.entries.length - 1) ∧ r.extractLsb' 24 8 = 0) ∧
  (∀ (s : State) (p u n : Nat) (P : Proc) (U : IoUnit) (E : Entry), Running s p P →
    Selects s u U (0x10 + 2 * n) → U.entries[n]? = some E →
    ∃ r : Word32,
      exec (.ioxWinLd4Rtelo p u n) s = .next (s.setProc p { P with result := r.setWidth 64 }).tick ∧
      r.extractLsb' 0 8 = E.vector ∧ r.extractLsb' 8 3 = E.dm ∧ r.getLsbD 11 = false ∧
      r.getLsbD 12 = E.s ∧ r.getLsbD 13 = E.p ∧ r.getLsbD 15 = E.t ∧ r.getLsbD 16 = E.m ∧
      r.extractLsb' 17 15 = 0)

/-- R228, R229: the high half of an entry is its destination; a store with a reserved bit set is
refused. -/
def Obligations.RteHighReadAndStore : Prop :=
  ∀ (s : State) (p u n : Nat) (P : Proc) (U : IoUnit) (E : Entry) (w : Word32), Running s p P →
    Selects s u U (0x11 + 2 * n) → U.entries[n]? = some E →
    (∃ r : Word32,
      exec (.ioxWinLd4Rtehi p u n) s = .next (s.setProc p { P with result := r.setWidth 64 }) ∧
      r.extractLsb' 24 8 = E.id ∧ r.extractLsb' 16 8 = E.eid ∧ r.extractLsb' 0 16 = 0) ∧
    (w.extractLsb' 0 16 = 0 → exec (.ioxWinSt4Rtehi p u n w) s = .next (s.setUnit u (U.setEntry n
      { E with id := w.extractLsb' 24 8, eid := w.extractLsb' 16 8 }))) ∧
    (w.extractLsb' 0 16 ≠ 0 → exec (.ioxWinSt4Rtehi p u n w) s = .refused .ioxReservedField)

/-- R227, R301: a store to the low half writes vector, mode, polarity, trigger and mask, and neither
the high half nor AWAIT; the delivery status keeps its value, but may be dropped when an entry with
one is masked, and may be set when an edge entry with an active pin is unmasked (which is checked by
R294). Reserved, unlabelled and undefined fields are refused. -/
def Obligations.RteLowStore : Prop :=
  ∀ (s : State) (p u n : Nat) (P : Proc) (U : IoUnit) (E E' : Entry) (w : Word32), Running s p P →
    Selects s u U (0x10 + 2 * n) → U.entries[n]? = some E →
    E' = { E with vector := w.extractLsb' 0 8, dm := w.extractLsb' 8 3, p := w.getLsbD 13,
                  t := w.getLsbD 15, m := w.getLsbD 16 } →
    (w.extractLsb' 17 15 ≠ 0 → exec (.ioxWinSt4Rtelo p u n w) s = .refused .ioxReservedField) ∧
    (w.extractLsb' 17 15 = 0 → w.getLsbD 14 = true ∨ w.getLsbD 11 = true →
      exec (.ioxWinSt4Rtelo p u n w) s = .refused .rteUnlabelledBits) ∧
    (w.extractLsb' 17 15 = 0 → w.getLsbD 14 = false → w.getLsbD 11 = false →
      (E'.dm ∈ [0b011#3, 0b110#3] →
        exec (.ioxWinSt4Rtelo p u n w) s = .refused .undefinedDeliveryMode) ∧
      (E'.dm ∉ [0b011#3, 0b110#3] →
        (E.m = false → E'.m = true → E.s = true → ∃ x,
          exec (.ioxWinSt4Rtelo p u n w) s = .next (s.withEntry u n U { E' with s := x })) ∧
        (E.m = true → E'.m = false → E'.teff = false → E'.active = true →
          (∀ r, E'.fireCheck = some r → exec (.ioxWinSt4Rtelo p u n w) s = .refused r) ∧
          (E'.fireCheck = none → ∃ x, (E.s = true → x = true) ∧
            exec (.ioxWinSt4Rtelo p u n w) s = .next (s.withEntry u n U { E' with s := x }))) ∧
        (¬ (E.m = false ∧ E'.m = true ∧ E.s = true) →
          ¬ (E.m = true ∧ E'.m = false ∧ E'.teff = false ∧ E'.active = true) →
          exec (.ioxWinSt4Rtelo p u n w) s = .next (s.withEntry u n U E'))))

/-- R233: an I/O EOI of an 8-bit vector releases every level entry of the unit that holds it, and
nothing else; a larger datum, or a unit without the register, is refused. -/
def Obligations.IoEoiReleases : Prop :=
  ∀ (s : State) (p u : Nat) (P : Proc) (U : IoUnit) (w : Word32), Running s p P → s.units[u]? = some U →
    (U.hasIoEoi = false → exec (.ioxEoiSt4 p u w) s = .refused .ioEoiAbsent) ∧
    (U.hasIoEoi = true → w.extractLsb' 8 24 ≠ 0 →
      exec (.ioxEoiSt4 p u w) s = .refused .ioEoiAbove8Bits) ∧
    (U.hasIoEoi = true → w.extractLsb' 8 24 = 0 → ∃ es : List Entry,
      exec (.ioxEoiSt4 p u w) s = .next (s.setUnit u { U with entries := es }) ∧
      ∀ n : Nat, es[n]? = (U.entries[n]?).map fun E =>
        if E.t = true ∧ E.vector = w.extractLsb' 0 8 then { E with await := false } else E)

/-! ### Receipt -/

/-- R315, R318: an INT message pends its vector, pending or in service already or not, and a vector below
0x10 is refused; a PMI message adds its vector to PMIP, and a vector above 0xF is refused. -/
def Obligations.ReceiveIntAndPmi : Prop :=
  ∀ (s : State) (q : Nat) (Q : Proc) (m : MsgBody),
    (Arrives s q Q (m.msg DMode.int) →
      (16 ≤ m.vector.toNat → ∃ irr,
        exec (.msgInt q m) s = .next (s.received q Q { Q with irr := irr } (m.msg DMode.int)) ∧
        ∀ j, irr.getLsbD j = if j = m.vector.toNat then true else Q.irr.getLsbD j) ∧
      (m.vector.toNat < 16 → exec (.msgInt q m) s = .refused .intReservedVector)) ∧
    (Arrives s q Q (m.msg DMode.pmi) →
      (m.vector.toNat ≤ 15 → ∃ pmiP,
        exec (.msgPmi q m) s = .next (s.received q Q { Q with pmiP := pmiP } (m.msg DMode.pmi)) ∧
        ∀ j, pmiP.getLsbD j = if j = m.vector.toNat then true else Q.pmiP.getLsbD j) ∧
      (15 < m.vector.toNat → exec (.msgPmi q m) s = .refused .pmiVectorAbove15))

/-- R316, R317, R319: NMI, ExtINT and INIT messages set their one bit; vector and trigger are ignored. -/
def Obligations.ReceiveNmiExtIntInit : Prop :=
  ∀ (s : State) (q : Nat) (Q : Proc) (m : MsgBody),
    (Arrives s q Q (m.msg DMode.nmi) →
      exec (.msgNmi q m) s = .next (s.received q Q { Q with nmiP := true } (m.msg DMode.nmi))) ∧
    (Arrives s q Q (m.msg DMode.extInt) →
      exec (.msgExtint q m) s = .next (s.received q Q { Q with extP := true } (m.msg DMode.extInt))) ∧
    (Arrives s q Q (m.msg DMode.init) →
      exec (.msgInit q m) s = .next (s.received q Q { Q with initP := true } (m.msg DMode.init)))

/-- R314: with two holders of the destination, receipt is refused, and routing (an IPI store, the bridge,
once no data written before the message is on its way, log 37), the handling of a hinted IPI and a drop
likewise; while such a message is on a bus every step is refused (log 18). With the identifiers distinct
(R65) no message has two holders. -/
def Obligations.DuplicateIdentifiers : Prop :=
  (∀ (s : State) (q : Nat) (Q : Proc) (m : Msg), s.procs[q]? = some Q → (Q.bus, m) ∈ s.sysBus →
    m.h = false → Q ∈ s.holders m → 2 ≤ (s.holders m).length →
    exec (recvInstr q m) s = .refused .duplicateLids) ∧
  (∀ (s : State) (p : Nat) (P : Proc) (a d : Word64), Running s p P →
    s.plat.pibBase.toNat ≤ a.toNat → a.toNat < s.plat.pibBase.toNat + 0x100000 →
    a.extractLsb' 0 3 = 0 → d.extractLsb' 11 53 = 0 → d.extractLsb' 8 3 ∉ [0b001#3, 0b011#3, 0b110#3] →
    2 ≤ (s.holders (ipiMsg a d)).length → exec (.ipiSt8 p a d) s = .refused .duplicateLids) ∧
  (∀ (s : State) (m : Msg), m ∈ s.ioBus → 2 ≤ (s.holders m).length →
    (s.waitsForData (s.ioBus.idxOf m) = false → runMove (.bridge m) s = .refused .duplicateLids) ∧
    step s = .refused .duplicateLids) ∧
  (∀ (s : State) (b : Nat) (m : Msg), (b, m) ∈ s.sysBus → 2 ≤ (s.holders m).length →
    (m.h = true → runMove (.ipiHint b m) s = .refused .duplicateLids) ∧
    (m.h = false → (∀ P ∈ s.procs, P.bus = b → P.matches m = false) →
      runMove (.drop b m) s = .refused .duplicateLids) ∧
    step s = .refused .duplicateLids) ∧
  (∀ s : State, s.UniqueLids → (∀ m, (s.holders m).length ≤ 1) ∧ s.duplicateHeld = false)

/-! ### Interruptions -/

/-- R358 to R361: with interrupts enabled, collection on and something deliverable, acceptance saves the
architected PSR bits in IPSR, clears both copies of both, and transfers control to `EXT_INT_ENTRY`;
nothing pending or in service changes. With collection off it is refused. In no other case is there an
acceptance: that a processor whose flow has ended takes none (log 10), and that such a move is the fault
`notEnabled` (log 13), are the model's choices. -/
def Obligations.AcceptInterrupt : Prop :=
  ∀ (s : State) (p : Nat) (P : Proc), s.procs[p]? = some P →
    (P.flow = .running → P.psrI.eff = true → P.hpu ≠ none → P.psrIc.eff = true →
      runMove (.accept p) s = .next (s.setProc p { P with
        ipsr := { i := P.psrI.arch, ic := P.psrIc.arch }, psrI := ⟨false, false⟩,
        psrIc := ⟨false, false⟩, event := .extIntEntry s.plat.extIntEntry })) ∧
    (P.flow = .running → P.psrI.eff = true → P.hpu ≠ none → P.psrIc.eff = false →
      runMove (.accept p) s = .refused .collectionOff) ∧
    (P.flow ≠ .running ∨ P.psrI.eff = false ∨ P.hpu = none →
      runMove (.accept p) s = .fault .notEnabled)

/-- R382, R383: a pending PMI is taken whatever PSR.i, TPR and service say, and leaves PMIP; a pending
INIT is taken and ends the flow. The vector goes to firmware with its meaning, which is any
(`PMI_VECTOR_MEANING`); what firmware does is left out (log 26, log 27). -/
def Obligations.TakePmiAndInit : Prop :=
  ∀ (s : State) (p : Nat) (P : Proc), Running s p P →
    (∀ v : BitVec 4, P.pmiP.getLsbD v.toNat = true → ∃ pmiP,
      runMove (.takePmi p v) s = .next (s.setProc p { P with
        pmiP := pmiP, event := .pmi v (Config.pmiVectorMeaning v) }) ∧
      ∀ j, pmiP.getLsbD j = if j = v.toNat then false else P.pmiP.getLsbD j) ∧
    (P.initP = true → runMove (.takeInit p) s = .next (s.setProc p { P with
      initP := false, flow := .initialized, event := .init }))

/-- R343, R383: an operation of a processor whose flow has ended does not run. The outcome is the
model's fault (log 10). -/
def Obligations.EndedFlowRunsNothing : Prop :=
  ∀ (i : Instr) (s : State) (p : Nat) (P : Proc), i.issuer = some p → s.procs[p]? = some P →
    P.flow ≠ .running → exec i s = .fault (.flowEnded p)

/-! ### Priority -/

/-- R355, R349: `hpu` is the pending unmasked vector of greatest priority; and it is the pending vector of
greatest priority if that one is unmasked, none if it is not (the second reading of R355, which the spec
derives). That the order puts NMI first, then ExtINT, is the spec's general knowledge, PRESUMED by
log 14. -/
def Obligations.HighestPendingUnmasked : Prop :=
  ∀ P : Proc,
    (P.hpu = none ↔ ∀ w, reportable w → P.pending w = true → P.unmasked w = false) ∧
    (∀ v, P.hpu = some v ↔ reportable v ∧ P.pending v = true ∧ P.unmasked v = true ∧
      ∀ w, reportable w → P.pending w = true → P.unmasked w = true → prio w ≤ prio v) ∧
    (∀ v, reportable v → P.pending v = true →
      (∀ w, reportable w → P.pending w = true → prio w ≤ prio v) →
      P.hpu = if P.unmasked v = true then some v else none)

/-- R371, R353: whatever an IVR read reports outranks everything in service, so that what is in service is
a stack ordered by priority. The places of NMI and ExtINT in the order are the spec's general knowledge
and its decision (log 14). -/
def Obligations.ReportedOutranksService : Prop :=
  ∀ (P : Proc) (v t : Nat), P.hpu = some v → reportable t → P.insvc.getLsbD t = true →
    prio t < prio v

/-- R348 to R354: a vector from 16 up is unmasked when `mmi` is 0, it is at least `(mic + 1) * 16`, and
its number is above everything in service; ExtINT when `mmi` is 0 and neither ExtINT nor NMI is in
service; NMI when NMI is not in service. NMI above ExtINT above all the others is the spec's general
knowledge, and that they mask in service is its decision (log 14). -/
def Obligations.Masking : Prop :=
  ∀ P : Proc,
    (∀ v, 16 ≤ v → v < 256 → (P.unmasked v = true ↔
      P.tpr.eff.mmi = false ∧ (P.tpr.eff.mic.toNat + 1) * 16 ≤ v ∧ P.insvc.getLsbD 2 = false ∧
        P.insvc.getLsbD 0 = false ∧ ∀ t, v ≤ t → t < 256 → P.insvc.getLsbD t = false)) ∧
    (P.unmasked 0 = true ↔
      P.tpr.eff.mmi = false ∧ P.insvc.getLsbD 2 = false ∧ P.insvc.getLsbD 0 = false) ∧
    (P.unmasked 2 = true ↔ P.insvc.getLsbD 2 = false)

/-! ### The hardware's own steps -/

/-- R33: a settle step brings one effective copy up to date, or applies one queued EOI; with none queued
there is no such step, and that the move is then the fault `notEnabled` is the model's choice (log 13). -/
def Obligations.SettleStep : Prop :=
  ∀ (s : State) (p : Nat) (P : Proc), s.procs[p]? = some P →
    runMove (.settle p .lid) s = .next (s.setProc p { P with lid := ⟨P.lid.arch, P.lid.arch⟩ }) ∧
    runMove (.settle p .tpr) s = .next (s.setProc p { P with tpr := ⟨P.tpr.arch, P.tpr.arch⟩ }) ∧
    runMove (.settle p .itv) s = .next (s.setProc p { P with itv := ⟨P.itv.arch, P.itv.arch⟩ }) ∧
    runMove (.settle p .pmv) s = .next (s.setProc p { P with pmv := ⟨P.pmv.arch, P.pmv.arch⟩ }) ∧
    runMove (.settle p .cmcv) s = .next (s.setProc p { P with cmcv := ⟨P.cmcv.arch, P.cmcv.arch⟩ }) ∧
    runMove (.settle p .lrr0) s = .next (s.setProc p { P with lrr0 := ⟨P.lrr0.arch, P.lrr0.arch⟩ }) ∧
    runMove (.settle p .lrr1) s = .next (s.setProc p { P with lrr1 := ⟨P.lrr1.arch, P.lrr1.arch⟩ }) ∧
    runMove (.settle p .psrI) s = .next (s.setProc p { P with psrI := ⟨P.psrI.arch, P.psrI.arch⟩ }) ∧
    runMove (.settle p .psrIc) s = .next (s.setProc p { P with psrIc := ⟨P.psrIc.arch, P.psrIc.arch⟩ }) ∧
    (P.eoiq = 0 → runMove (.settle p .eoi) s = .fault .notEnabled) ∧
    (∀ k, P.eoiq = k + 1 → P.topInsvc = none →
      runMove (.settle p .eoi) s = .refused .eoiNothingInService) ∧
    (∀ k v, P.eoiq = k + 1 → P.topInsvc = some v → ∃ insvc,
      runMove (.settle p .eoi) s = .next (s.setProc p { P with insvc := insvc, eoiq := k }) ∧
      ∀ j, insvc.getLsbD j = if j = v then false else P.insvc.getLsbD j)

/-- R322 to R324: an internal event pends the vector of its effective Local Vector Register, unless it is
masked; a vector below 0x10 is refused. -/
def Obligations.LocalEvents : Prop :=
  ∀ (s : State) (p : Nat) (P : Proc) (mv : Move) (l : Lvr), s.procs[p]? = some P →
    (mv = .timerEvent p ∧ l = P.itv.eff) ∨ (mv = .pmuEvent p ∧ l = P.pmv.eff) ∨
      (mv = .cmcEvent p ∧ l = P.cmcv.eff) →
    (l.m = true → runMove mv s = .next s) ∧
    (l.m = false → l.vector.toNat < 16 → runMove mv s = .refused .lvrReservedVector) ∧
    (l.m = false → 16 ≤ l.vector.toNat → ∃ irr,
      runMove mv s = .next (s.setProc p { P with irr := irr }) ∧
      ∀ j, irr.getLsbD j = if j = l.vector.toNat then true else P.irr.getLsbD j)

/-- R294: what is refused when an entry fires. -/
def Obligations.FiringCombinations : Prop :=
  ∀ E : Entry,
    ((E.dm = 0b000#3 ∨ E.dm = 0b001#3) → (E.fireCheck = none ↔ 16 ≤ E.vector.toNat)) ∧
    (E.dm = 0b111#3 → (E.fireCheck = none ↔ E.t = false)) ∧
    (E.dm = 0b010#3 → (E.fireCheck = none ↔ E.t = false ∧ E.vector.toNat ≤ 15)) ∧
    (E.dm = 0b101#3 → (E.fireCheck = none ↔ E.t = false)) ∧
    (E.dm = 0b100#3 → E.fireCheck = none)

/-- R291, R292, R295, R299: a sample of a masked pin, and of an edge entry's pin that shows no edge into
the active level or finds one undelivered, only notes the level; a new edge sets the delivery status,
if R294 allows. An NMI entry is edge whatever its trigger bit. -/
def Obligations.SampleEdgePin : Prop :=
  ∀ (s : State) (u n : Nat) (U : IoUnit) (E : Entry), HasEntry s u n U E →
    (E.m = true ∨ ((E.t = false ∨ E.dm = 0b100#3) ∧
        ¬ (E.pin.prev = E.p ∧ E.pin.level = !E.p ∧ E.s = false)) →
      runMove (.samplePin u n) s =
        .next (s.withEntry u n U { E with pin := ⟨E.pin.level, E.pin.level⟩ })) ∧
    (E.m = false → (E.t = false ∨ E.dm = 0b100#3) → E.pin.prev = E.p → E.pin.level = !E.p →
      E.s = false →
      (E.fireCheck = none → runMove (.samplePin u n) s =
        .next (s.withEntry u n U { E with s := true, pin := ⟨E.pin.level, E.pin.level⟩ })) ∧
      (∀ r, E.fireCheck = some r → runMove (.samplePin u n) s = .refused r))

/-- R293, R298, R300: a sample of a level entry's active pin sets the delivery status, unless a message
was sent and its I/O EOI has not come, or one is still to be sent; a pin that went inactive before its
message was sent may or may not withdraw it; else only the level is noted. That R298 acts at the sample
that sees the pin go inactive is the model's reading (log 30, DEDUCED). -/
def Obligations.SampleLevelPin : Prop :=
  ∀ (s : State) (u n : Nat) (U : IoUnit) (E : Entry), HasEntry s u n U E →
    E.m = false → E.t = true → E.dm ≠ 0b100#3 →
    (E.pin.level = (!E.p) → E.await = false → E.s = false →
      (E.fireCheck = none → runMove (.samplePin u n) s =
        .next (s.withEntry u n U { E with s := true, pin := ⟨E.pin.level, E.pin.level⟩ })) ∧
      (∀ r, E.fireCheck = some r → runMove (.samplePin u n) s = .refused r)) ∧
    (E.pin.level = (!E.p) → (E.await = true ∨ E.s = true) → runMove (.samplePin u n) s =
        .next (s.withEntry u n U { E with pin := ⟨E.pin.level, E.pin.level⟩ })) ∧
    (E.pin.level = E.p → E.pin.prev = (!E.p) → E.s = true → ∃ x, runMove (.samplePin u n) s =
        .next (s.withEntry u n U { E with s := x, pin := ⟨E.pin.level, E.pin.level⟩ })) ∧
    (E.pin.level = E.p → ¬ (E.pin.prev = (!E.p) ∧ E.s = true) → runMove (.samplePin u n) s =
        .next (s.withEntry u n U { E with pin := ⟨E.pin.level, E.pin.level⟩ }))

/-- R296, R297: an unmasked entry with its delivery status set may send: the message is what the entry
holds now, mode `001` spelled as `000` with the hint; the delivery status goes to 0, and a level entry
awaits its I/O EOI. No other entry sends: that the move is then the fault `notEnabled` is the model's
choice (log 13). -/
def Obligations.SendStep : Prop :=
  ∀ (s : State) (u n : Nat) (U : IoUnit) (E : Entry), HasEntry s u n U E →
    (E.s = true → E.m = false → runMove (.send u n) s = .next { s.setUnit u (U.setEntry n
        { E with s := false, await := E.await || (E.t && decide (E.dm ≠ 0b100#3)) }) with
      ioBus := s.ioBus ++ [{
        id := E.id, eid := E.eid, h := decide (E.dm = 0b001#3),
        dm := if E.dm = 0b001#3 then 0b000#3 else E.dm, vector := E.vector, t := E.t }] }) ∧
    (E.s = false ∨ E.m = true → runMove (.send u n) s = .fault .notEnabled)

/-- R304: without the hint, or on a platform that does not redirect, the bridge moves the message to the
bus of the processor that holds its destination, or to any bus, with the hint cleared. Data written before
the message must be in memory (R103); that it is here that the message waits is the model's reading
(log 37). The messages before each write on its way are then one fewer. -/
def Obligations.BridgePassThrough : Prop :=
  ∀ (s : State) (m : Msg), m ∈ s.ioBus → s.waitsForData (s.ioBus.idxOf m) = false →
    m.h = false ∨ s.plat.hasIoRedirect = false →
    (∀ Q, s.holders m = [Q] → runMove (.bridge m) s = .next { s with
      ioBus := s.ioBus.erase m, stores := s.stores.map PendingStore.passed,
      sysBus := s.sysBus ++ [(Q.bus, { m with h := false })], draws := s.draws + 2 }) ∧
    (s.holders m = [] → ∃ b, runMove (.bridge m) s = .next { s with
      ioBus := s.ioBus.erase m, stores := s.stores.map PendingStore.passed,
      sysBus := s.sysBus ++ [(b, { m with h := false })], draws := s.draws + 2 })

/-- R304 to R307: on a platform that redirects, a hinted message goes to the bus of its original target
(to any bus, if no processor holds it) with the hint cleared and only its destination perhaps changed: to a
processor of that bus whose XTP register is enabled and of least XTP priority there. Data written before
the message must be in memory (R103, log 37), as for a message passed through. -/
def Obligations.BridgeRedirection : Prop :=
  ∀ (s : State) (m : Msg), m ∈ s.ioBus → s.waitsForData (s.ioBus.idxOf m) = false →
    m.h = true → s.plat.hasIoRedirect = true → (s.holders m).length ≤ 1 →
    ∃ b id eid, runMove (.bridge m) s = .next { s with
        ioBus := s.ioBus.erase m, stores := s.stores.map PendingStore.passed,
        sysBus := s.sysBus ++ [(b, { m with id := id, eid := eid, h := false })],
        draws := s.draws + 2 } ∧
      (∀ Q, s.holders m = [Q] → b = Q.bus) ∧
      ((id = m.id ∧ eid = m.eid) ∨ ∃ T ∈ s.procs, T.bus = b ∧ Config.xtpEnabled T.xtp = true ∧
        (∀ V ∈ s.procs, V.bus = b → Config.xtpEnabled V.xtp = true →
          Config.xtpPrio T.xtp ≤ Config.xtpPrio V.xtp) ∧
        id = T.lid.eff.id ∧ eid = T.lid.eff.eid)

/-- R309, R310, R313: a hinted IPI is lost on a platform that does not handle the hint; elsewhere it is
refused unless its mode is INT, and else goes by the body of R305 to the bus of its destination (to any
bus, if no processor holds it) with the hint cleared, its destination left alone or that of a processor of
that bus whose XTP register is enabled and of least XTP priority there, and left alone if the chipset has
no XTP registers. A message without the hint that no processor of its bus matches may be dropped. -/
def Obligations.HintedIpiAndDrop : Prop :=
  ∀ (s : State) (b : Nat) (m : Msg), (b, m) ∈ s.sysBus → (s.holders m).length ≤ 1 →
    (m.h = true → s.plat.hasIpiRedirect = false →
      runMove (.ipiHint b m) s = .next { s with sysBus := s.sysBus.erase (b, m) }) ∧
    (m.h = true → s.plat.hasIpiRedirect = true → m.dm ≠ 0b000#3 →
      runMove (.ipiHint b m) s = .refused .hintNotInt) ∧
    (m.h = true → s.plat.hasIpiRedirect = true → m.dm = 0b000#3 →
      ∃ d id eid, runMove (.ipiHint b m) s = .next { s with
          sysBus := s.sysBus.erase (b, m) ++ [(d, { m with id := id, eid := eid, h := false })],
          draws := s.draws + 2 } ∧
        (∀ Q, s.holders m = [Q] → d = Q.bus) ∧
        ((id = m.id ∧ eid = m.eid) ∨ s.plat.ipiXtp = true ∧
          ∃ T ∈ s.procs, T.bus = d ∧ Config.xtpEnabled T.xtp = true ∧
            (∀ V ∈ s.procs, V.bus = d → Config.xtpEnabled V.xtp = true →
              Config.xtpPrio T.xtp ≤ Config.xtpPrio V.xtp) ∧
            id = T.lid.eff.id ∧ eid = T.lid.eff.eid)) ∧
    (m.h = false → (∀ P ∈ s.procs, P.bus = b → P.matches m = false) →
      runMove (.drop b m) s = .next { s with sysBus := s.sysBus.erase (b, m) })

/-- R325, R327, R329: a sample of a LINT pin that is masked, or edge without an edge into the active
level, only notes the level; an edge into it delivers by the mode of the effective LRR, NMI whatever
the trigger, and is refused for a mode the LRR list does not have (log 30). Without the pins there is no
such step (R329); that the move is then the fault `noSuchPin` is the model's choice (log 13). -/
def Obligations.SampleLintEdge : Prop :=
  ∀ (s : State) (p : Nat) (k : LintPin) (P : Proc) (L : Lrr) (x : Pin), s.procs[p]? = some P →
    L = P.lrrEff k → x = P.lint k →
    (P.hasLint = false → runMove (.sampleLint p k) s = .fault .noSuchPin) ∧
    (P.hasLint = true →
      (L.m = true ∨ ((L.tm = false ∨ L.dm = 0b100#3) ∧ ¬ (x.prev = L.ipp ∧ x.level = !L.ipp)) →
        runMove (.sampleLint p k) s = .next (s.setProc p (P.setLint k ⟨x.level, x.level⟩)).tick) ∧
      (L.m = false → L.tm = false ∨ L.dm = 0b100#3 → x.prev = L.ipp → x.level = (!L.ipp) →
        (L.dm = 0b000#3 → 16 ≤ L.vector.toNat → ∃ irr, runMove (.sampleLint p k) s =
          .next (s.setProc p ({ P with irr := irr }.setLint k ⟨x.level, x.level⟩)).tick ∧
          ∀ j, irr.getLsbD j = if j = L.vector.toNat then true else P.irr.getLsbD j) ∧
        (L.dm = 0b000#3 → L.vector.toNat < 16 →
          runMove (.sampleLint p k) s = .refused .intReservedVector) ∧
        (L.dm = 0b010#3 → L.vector.toNat ≤ 15 → ∃ pmiP, runMove (.sampleLint p k) s =
          .next (s.setProc p ({ P with pmiP := pmiP }.setLint k ⟨x.level, x.level⟩)).tick ∧
          ∀ j, pmiP.getLsbD j = if j = L.vector.toNat then true else P.pmiP.getLsbD j) ∧
        (L.dm = 0b010#3 → 15 < L.vector.toNat →
          runMove (.sampleLint p k) s = .refused .pmiVectorAbove15) ∧
        (L.dm = 0b100#3 → runMove (.sampleLint p k) s =
          .next (s.setProc p ({ P with nmiP := true }.setLint k ⟨x.level, x.level⟩)).tick) ∧
        (L.dm = 0b101#3 → runMove (.sampleLint p k) s =
          .next (s.setProc p ({ P with initP := true }.setLint k ⟨x.level, x.level⟩)).tick) ∧
        (L.dm = 0b111#3 → runMove (.sampleLint p k) s =
          .next (s.setProc p ({ P with extP := true }.setLint k ⟨x.level, x.level⟩)).tick) ∧
        (L.dm ∈ [0b001#3, 0b011#3, 0b110#3] →
          runMove (.sampleLint p k) s = .refused .undefinedDeliveryMode)))

/-- R326, R328: a level LINT pin of mode INT pends its vector on assertion and removes the pending
indication on deassertion; while it stays active the vector may be pended again, by the model's choice also
when no IVR read has cleared it before (log 20). A vector below 0x10 is refused on assertion, and may be
while the pin stays active (when the vector would be pended; log 20). PMI, INIT and ExtINT with level
trigger, and the modes the LRR list does not have (log 30), are refused on assertion, and any other sample
of theirs only notes the level. -/
def Obligations.SampleLintLevel : Prop :=
  ∀ (s : State) (p : Nat) (k : LintPin) (P : Proc) (L : Lrr) (x : Pin), s.procs[p]? = some P →
    L = P.lrrEff k → x = P.lint k → P.hasLint = true → L.m = false → L.tm = true →
    (L.dm = 0b000#3 → 16 ≤ L.vector.toNat ∨ x.level = L.ipp → ∃ irr, runMove (.sampleLint p k) s =
        .next (s.setProc p ({ P with irr := irr }.setLint k ⟨x.level, x.level⟩)).tick ∧
      (∀ j, j ≠ L.vector.toNat → irr.getLsbD j = P.irr.getLsbD j) ∧
      (x.prev = L.ipp → x.level = (!L.ipp) → irr.getLsbD L.vector.toNat = true) ∧
      (x.prev = (!L.ipp) → x.level = L.ipp → irr.getLsbD L.vector.toNat = false) ∧
      (x.prev = (!L.ipp) → x.level = (!L.ipp) → P.irr.getLsbD L.vector.toNat = true →
        irr.getLsbD L.vector.toNat = true) ∧
      (x.prev = L.ipp → x.level = L.ipp →
        irr.getLsbD L.vector.toNat = P.irr.getLsbD L.vector.toNat)) ∧
    (L.dm = 0b000#3 → L.vector.toNat < 16 → x.level = (!L.ipp) →
      (x.prev = L.ipp → runMove (.sampleLint p k) s = .refused .intReservedVector) ∧
      (x.prev = (!L.ipp) → runMove (.sampleLint p k) s = .refused .intReservedVector ∨
        runMove (.sampleLint p k) s = .next (s.setProc p (P.setLint k ⟨x.level, x.level⟩)).tick)) ∧
    (x.prev = L.ipp → x.level = (!L.ipp) →
      (L.dm = 0b010#3 → runMove (.sampleLint p k) s = .refused .pmiLevel) ∧
      (L.dm = 0b101#3 → runMove (.sampleLint p k) s = .refused .initLevel) ∧
      (L.dm = 0b111#3 → runMove (.sampleLint p k) s = .refused .extIntLevel) ∧
      (L.dm ∈ [0b001#3, 0b011#3, 0b110#3] →
        runMove (.sampleLint p k) s = .refused .undefinedDeliveryMode)) ∧
    (L.dm ∉ [0b000#3, 0b100#3] → ¬ (x.prev = L.ipp ∧ x.level = !L.ipp) →
      runMove (.sampleLint p k) s = .next (s.setProc p (P.setLint k ⟨x.level, x.level⟩)).tick)

/-- R330 to R332: the assertion of the NMI, PMI or INIT pin pends NMI, PMI with parameter 0, or INIT;
their deassertion pends nothing. That the pins are active high and edge is the spec's decision (log 21).
R333: a LINT pin or an I/O xAPIC pin that a device drives takes the level, and nothing is pended before a
sample; driven twice to a new level without a sample in between, it is refused (D37, log 22). That driving
a LINT pin of a processor without the pins is the fault `noSuchPin` is the model's choice (log 13). -/
def Obligations.DrivenPins : Prop :=
  (∀ (s : State) (p : Nat) (P : Proc), s.procs[p]? = some P →
    (P.nmiPin = false → runMove (.driveDedicated p .nmi true) s =
      .next (s.setProc p { P with nmiPin := true, nmiP := true })) ∧
    (P.initPin = false → runMove (.driveDedicated p .init true) s =
      .next (s.setProc p { P with initPin := true, initP := true })) ∧
    (P.pmiPin = false → ∃ pmiP, runMove (.driveDedicated p .pmi true) s =
        .next (s.setProc p { P with pmiPin := true, pmiP := pmiP }) ∧
      ∀ j, pmiP.getLsbD j = if j = 0 then true else P.pmiP.getLsbD j) ∧
    (P.nmiPin = true → runMove (.driveDedicated p .nmi true) s = .next s) ∧
    (P.initPin = true → runMove (.driveDedicated p .init true) s = .next s) ∧
    (P.pmiPin = true → runMove (.driveDedicated p .pmi true) s = .next s) ∧
    runMove (.driveDedicated p .nmi false) s = .next (s.setProc p { P with nmiPin := false }) ∧
    runMove (.driveDedicated p .init false) s = .next (s.setProc p { P with initPin := false }) ∧
    runMove (.driveDedicated p .pmi false) s = .next (s.setProc p { P with pmiPin := false })) ∧
  (∀ (s : State) (p : Nat) (k : LintPin) (level : Bool) (P : Proc) (x : Pin), s.procs[p]? = some P →
    x = P.lint k →
    (P.hasLint = false → runMove (.driveLint p k level) s = .fault .noSuchPin) ∧
    (P.hasLint = true → x.level = level → runMove (.driveLint p k level) s = .next s) ∧
    (P.hasLint = true → x.level = (!level) → x.prev = x.level → runMove (.driveLint p k level) s =
      .next (s.setProc p (P.setLint k ⟨level, x.prev⟩))) ∧
    (P.hasLint = true → x.level = (!level) → x.prev = level →
      runMove (.driveLint p k level) s = .refused .pulseTooShort)) ∧
  (∀ (s : State) (u n : Nat) (level : Bool) (U : IoUnit) (E : Entry), HasEntry s u n U E →
    (E.pin.level = level → runMove (.drivePin u n level) s = .next s) ∧
    (E.pin.level = (!level) → E.pin.prev = E.pin.level → runMove (.drivePin u n level) s =
      .next (s.setUnit u (U.setEntry n { E with pin := ⟨level, E.pin.prev⟩ }))) ∧
    (E.pin.level = (!level) → E.pin.prev = level →
      runMove (.drivePin u n level) s = .refused .pulseTooShort))

/-- R109, R302, R103, R84, R268: a device's aligned write in the delivery area with a defined mode puts the
message it spells on the I/O bus, and the environment may send any record of a defined mode; an aligned
write of 1, 2, 4 or 8 bytes that no device claims is data and gets on its way to memory; the bridge takes
no message before the data written ahead of it has landed; a read changes nothing. That the order holds on
every platform, and at the bridge, is the model's (log 37); the widths of data, and which writes are
refused where no rule describes them, are its choices (log 25, log 29), and so is the fault of data at or
above `2^63` (log 25); a move of the bridge that cannot be made is a fault (log 13). -/
def Obligations.IoBusTraffic : Prop :=
  ∀ (s : State) (ad data : Word32), s.plat.Wf →
    (s.plat.pibBase.toNat ≤ ad.toNat → ad.toNat < s.plat.pibBase.toNat + 0x100000 →
      ad.toNat % 8 = 0 →
      (data.extractLsb' 8 3 ∉ [0b011#3, 0b110#3] →
        runMove (.ioBusWrite ad data) s = .next { s with ioBus := s.ioBus ++ [
          { id := ad.extractLsb' 12 8, eid := ad.extractLsb' 4 8, h := ad.getLsbD 3,
            dm := if data.extractLsb' 8 3 = 0b001#3 then 0b000#3 else data.extractLsb' 8 3,
            vector := data.extractLsb' 0 8, t := data.getLsbD 15 }] }) ∧
      (data.extractLsb' 8 3 ∈ [0b011#3, 0b110#3] →
        runMove (.ioBusWrite ad data) s = .refused .undefinedDeliveryMode)) ∧
    (s.plat.pibBase.toNat ≤ ad.toNat → ad.toNat < s.plat.pibBase.toNat + 0x200000 →
      s.plat.pibBase.toNat + 0x100000 ≤ ad.toNat ∨ ad.toNat % 8 ≠ 0 →
      runMove (.ioBusWrite ad data) s = .refused .malformedIoBusMessage) ∧
    (ad.toNat < s.plat.pibBase.toNat ∨ s.plat.pibBase.toNat + 0x200000 ≤ ad.toNat →
      (ad.toNat % 4 ≠ 0 → runMove (.ioBusWrite ad data) s = .refused .memoryAccessForm) ∧
      (ad.toNat % 4 = 0 → (∃ k, k < 4 ∧ s.deviceByte (ad.toNat + k) = true) →
        runMove (.ioBusWrite ad data) s = .refused .ioBusWriteToDevice)) ∧
    (ad.toNat % 4 = 0 → (∀ k, k < 4 → s.deviceByte (ad.toNat + k) = false) →
      runMove (.ioBusWrite ad data) s = .next { s with stores := s.stores ++ [{
        addr := ad.toNat, width := 4, data := data.setWidth 64, msgsBefore := some s.ioBus.length }] }) ∧
    (∀ (a : Word64) (n : Nat) (d : Word64),
      (a.toNat < 2 ^ 63 → n ∈ [1, 2, 4, 8] → a.toNat % n = 0 →
        ((∀ k, k < n → s.deviceByte (a.toNat + k) = false) →
          runMove (.deviceData a n d) s = .next { s with stores := s.stores ++ [{
            addr := a.toNat, width := n, data := d, msgsBefore := some s.ioBus.length }] }) ∧
        ((∃ k, k < n ∧ s.deviceByte (a.toNat + k) = true) →
          runMove (.deviceData a n d) s = .refused .ioBusWriteToDevice)) ∧
      (a.toNat < 2 ^ 63 → ¬ (n ∈ [1, 2, 4, 8] ∧ a.toNat % n = 0) →
        runMove (.deviceData a n d) s = .refused .memoryAccessForm) ∧
      (2 ^ 63 ≤ a.toNat → runMove (.deviceData a n d) s = .fault (.noSuchAddress a.toNat))) ∧
    (∀ m : Msg, (∃ x ∈ s.stores, ∃ k, x.msgsBefore = some k ∧ k ≤ s.ioBus.idxOf m) →
      runMove (.bridge m) s = .fault .notEnabled) ∧
    (∀ m : Msg, m.dm ∉ [0b011#3, 0b110#3] → runMove (.deviceMsg m) s = .next { s with
      ioBus := s.ioBus ++ [{ m with dm := if m.dm = 0b001#3 then 0b000#3 else m.dm }] }) ∧
    (∀ m : Msg, m.dm ∈ [0b011#3, 0b110#3] →
      runMove (.deviceMsg m) s = .refused .undefinedDeliveryMode) ∧
    runMove (.ioBusRead ad) s = .next s

/-- Ordinary memory. A store or load, cacheable or not, is on its way from its issue on. A store on its way
may land at any time: its bytes, and no others, are then in memory. A load on its way may be performed at
any time: it delivers for each byte what memory holds or what a store on its way puts there, as the move
says; what has landed is read back where no store on its way is seen. No order between any two of them, or
between one and an interrupt, is stated (R101 gives no consistency model; log 38). Byte order (PRESUMED),
access forms, and that every address no device claims is memory, are the model's by log 25. -/
def Obligations.MemoryReadAfterWrite : Prop :=
  (∀ (s : State) (x : Access) (P : Proc), Running s x.p P →
    x.width ∈ [1, 2, 4, 8] → x.addr.toNat % x.width = 0 → x.addr.toNat < 2 ^ 63 →
    (∀ k, k < x.width → s.deviceByte (x.addr.toNat + k) = false) →
    (x.store = true → runMove (.access x) s = .next { s with stores := s.stores ++ [{
      addr := x.addr.toNat, width := x.width, data := x.data, msgsBefore := none }] }) ∧
    (x.store = false → runMove (.access x) s = .next { s with loads := s.loads ++ [{
      p := x.p, addr := x.addr.toNat, width := x.width }] })) ∧
  (∀ (s : State) (k : Nat) (x : PendingStore), s.stores[k]? = some x → x.width ≤ 8 →
    ∃ mem, runMove (.land k) s = .next { s with mem := mem, stores := s.stores.eraseIdx k } ∧
      (∀ j, j < x.width → mem.readByte (x.addr + j) = some (x.data.extractLsb' (8 * j) 8)) ∧
      (∀ b, b < x.addr ∨ x.addr + x.width ≤ b → mem.readByte b = s.mem.readByte b)) ∧
  (∀ (s : State) (k : Nat) (x : PendingLoad) (P : Proc) (sees : List (Option Nat)) (v : Word64),
    s.loads[k]? = some x → s.procs[x.p]? = some P → x.width ≤ 8 →
    (∀ j, j < x.width →
      s.seenByte (x.addr + j) (sees[j]?.getD none) = some (v.extractLsb' (8 * j) 8)) →
    runMove (.perform k sees) s = .next { s.setProc x.p { P with
      result := (v.extractLsb' 0 (8 * x.width)).setWidth 64 } with loads := s.loads.eraseIdx k }) ∧
  (∀ (s : State) (b : Nat), s.seenByte b none = s.mem.readByte b ∧
    ∀ (i : Nat) (y : PendingStore), s.stores[i]? = some y →
      (y.addr ≤ b → b < y.addr + y.width →
        s.seenByte b (some i) = some (y.data.extractLsb' (8 * (b - y.addr)) 8)) ∧
      (b < y.addr ∨ y.addr + y.width ≤ b → s.seenByte b (some i) = s.mem.readByte b)) ∧
  (∀ (s : State) (i k : Nat) (x : PendingStore) (y : PendingLoad) (P : Proc),
    s.stores[i]? = some x → s.loads[k]? = some y → s.procs[y.p]? = some P → x.width ≤ 8 →
    y.addr = x.addr → y.width = x.width →
    ∃ t, runMove (.land i) s = .next t ∧ runMove (.perform k []) t = .next { t.setProc y.p { P with
      result := (x.data.extractLsb' 0 (8 * x.width)).setWidth 64 } with loads := t.loads.eraseIdx k })

/-! ### The whole machine -/

/-- Every step keeps the invariant: the platform, every processor, unit and message in flight stay
well-formed, and memory stays in its canonical form; no byte of it, and none of a store or load on its way,
is at an address that a device claims or that does not exist (below `2^63` every other address exists: log 25). -/
def Obligations.StepKeepsInvariant : Prop :=
  ∀ s s' : State, s.Inv → step s = .next s' → s'.Inv

/-- The state after reset of every platform that R7 allows meets the invariant, its identifiers tell its
buses, and it meets the launch premises of R65: `Quiet`, `BusesEmpty` and `IdleUnit` by the model's choice of
reset values (log 3), `UniqueLIDs` if the platform's identifiers are pairwise distinct (R62). -/
def Obligations.ResetMeetsInvariant : Prop :=
  State.reset.Inv ∧
  ∀ c : Params, c.Ok → (State.resetOf c).Inv ∧ (State.resetOf c).LidsTellBuses ∧
    (State.resetOf c).BusesEmpty ∧ (∀ P ∈ (State.resetOf c).procs, P.Quiet) ∧
    (∀ U ∈ (State.resetOf c).units, U.Idle) ∧
    ((c.procs.Pairwise fun P Q => P.lid0 ≠ Q.lid0) → (State.resetOf c).UniqueLids)

/-- R60, R62, R64: after reset every entry is masked, each LID is the platform's, and every effective
copy equals its architected value. -/
def Obligations.ResetValues : Prop :=
  ∀ c : Params,
    (∀ U ∈ (State.resetOf c).units, ∀ E ∈ U.entries, E.m = true) ∧
    (∀ (p : Nat) (P : Proc), (State.resetOf c).procs[p]? = some P →
      ((c.procs[p]?).map (·.lid0) = some (P.lid.arch.id ++ P.lid.arch.eid) ∧
      P.lid.eff = P.lid.arch ∧ P.tpr.eff = P.tpr.arch ∧ P.itv.eff = P.itv.arch ∧
      P.pmv.eff = P.pmv.arch ∧ P.cmcv.eff = P.cmcv.arch ∧ P.lrr0.eff = P.lrr0.arch ∧
      P.lrr1.eff = P.lrr1.arch ∧ P.psrI.eff = P.psrI.arch ∧ P.psrIc.eff = P.psrIc.arch))

/-- R22: only an IVR read that reports the vector, or the deassertion of a level LINT pin that holds it,
clears a pending bit. -/
def Obligations.PendingBitCleared : Prop :=
  ∀ (s s' : State) (p v : Nat) (P P' : Proc), step s = .next s' → s.procs[p]? = some P →
    s'.procs[p]? = some P' → P.irr.getLsbD v = true → P'.irr.getLsbD v = false →
    (s.performs (.movFromIvr p) ∧ P.hpu = some v) ∨
    (∃ k, s.doing (.sampleLint p k) ∧ (P.lrrEff k).vector.toNat = v ∧ (P.lrrEff k).dm = 0b000#3 ∧
      (P.lrrEff k).tm = true ∧ (P.lint k).prev = (!(P.lrrEff k).ipp) ∧
      (P.lint k).level = (P.lrrEff k).ipp)

/-- R24, R370: only an IVR read that reports a vector puts it in service; only an EOI, applied by
`srlz.d` or by a settle step, takes it out, and a settle step takes the one of greatest priority.
Which ones `srlz.d` takes is said by `SerializeSettlesAll`. -/
def Obligations.InServiceChanges : Prop :=
  ∀ (s s' : State) (p v : Nat) (P P' : Proc), step s = .next s' → s.procs[p]? = some P →
    s'.procs[p]? = some P' →
    (P.insvc.getLsbD v = false → P'.insvc.getLsbD v = true →
      s.performs (.movFromIvr p) ∧ P.hpu = some v) ∧
    (P.insvc.getLsbD v = true → P'.insvc.getLsbD v = false →
      0 < P.eoiq ∧ (s.performs (.srlzD p) ∨ (s.doing (.settle p .eoi) ∧ P.topInsvc = some v)))

/-- R48: a level entry awaits its I/O EOI from the send of its message until an I/O EOI write to its
unit with the vector it then holds. -/
def Obligations.AwaitChanges : Prop :=
  ∀ (s s' : State) (u n : Nat) (U U' : IoUnit) (E E' : Entry), step s = .next s' → HasEntry s u n U E →
    HasEntry s' u n U' E' →
    (E.await = false → E'.await = true → s.doing (.send u n) ∧ E.t = true) ∧
    (E.await = true → E'.await = false → E.t = true ∧
      ∃ p w, s.performs (.ioxEoiSt4 p u w) ∧ w.extractLsb' 0 8 = E.vector)

/-- R31, R187: software never clears PSR.ic but by a return; only interruption entry does. The clause on
the return rests on what `rfi` restores, which is the spec's general knowledge (R189, G11), PRESUMED by
log 15. -/
def Obligations.CollectionCleared : Prop :=
  ∀ (s s' : State) (p : Nat) (P P' : Proc), step s = .next s' → s.procs[p]? = some P →
    s'.procs[p]? = some P' → P.psrIc.arch = true → P'.psrIc.arch = false →
    s.doing (.accept p) ∨ (s.performs (.rfi p) ∧ P.ipsr.ic = false)

/-- R160: an operation acts on the processor that issues it: no other processor changes. -/
def Obligations.OperationsAreLocal : Prop :=
  ∀ (i : Instr) (s s' : State) (p q : Nat), i.issuer = some p → q ≠ p → exec i s = .next s' →
    s'.procs[q]? = s.procs[q]?

/-- R7, R18, R45: no step changes what the platform fixes. -/
def Obligations.PlatformIsConstant : Prop :=
  ∀ s s' : State, step s = .next s' →
    s'.plat = s.plat ∧
    s'.procs.map (fun P => (P.bus, P.hasLint)) = s.procs.map (fun P => (P.bus, P.hasLint)) ∧
    s'.units.map (fun U => (U.base, U.version, U.hasIrqAssert, U.hasIoEoi, U.entries.length)) =
      s.units.map (fun U => (U.base, U.version, U.hasIrqAssert, U.hasIoEoi, U.entries.length))

/-- No operation of the table changes a byte of ordinary memory: only a store that lands does. A store is
put on its way only by a store access or a device's data write, a load only by a load access, and only where
no device claims a byte (R84, R103; log 25, log 29, log 38). -/
def Obligations.MemoryWriters : Prop :=
  ∀ s s' : State, step s = .next s' →
    (∀ a : Nat, s'.mem.readByte a ≠ s.mem.readByte a →
      ∃ k x, s.doing (.land k) ∧ s.stores[k]? = some x ∧ x.addr ≤ a ∧ a < x.addr + x.width) ∧
    (∀ y ∈ s'.stores,
      (∃ z ∈ s.stores, z.addr = y.addr ∧ z.width = y.width ∧ z.data = y.data) ∨
      (∃ x, s.doing (.access x) ∧ x.store = true ∧ claim x s = .memory ∧
        s.deviceBytes x.addr.toNat x.width = false ∧
        y = { addr := x.addr.toNat, width := x.width, data := x.data, msgsBefore := none }) ∨
      ((s.doing (.deviceData (BitVec.ofNat 64 y.addr) y.width y.data) ∨
          ∃ ad w, s.doing (.ioBusWrite ad w) ∧ y.addr = ad.toNat ∧ y.width = 4 ∧ y.data = w.setWidth 64) ∧
        s.deviceBytes y.addr y.width = false ∧ y.msgsBefore = some s.ioBus.length)) ∧
    (∀ y ∈ s'.loads, y ∈ s.loads ∨ ∃ x, s.doing (.access x) ∧ x.store = false ∧ claim x s = .memory ∧
      s.deviceBytes x.addr.toNat x.width = false ∧
      y = { p := x.p, addr := x.addr.toNat, width := x.width })

end
end

