-- ==== Sys2Proof/Laws/Flags.lean ====
section
/-! SUPPORT. One bit written; the vector that the priority logic picks. -/

namespace Sys2Proof.Machine

/-- Bit `i` is written, every other bit keeps its value. -/
theorem getLsbD_writeBit {n : Nat} (x : BitVec n) (i j : Nat) (b : Bool) :
    (writeBit x i b).getLsbD j = if j = i then (b && decide (i < n)) else x.getLsbD j := by
  unfold writeBit
  by_cases hij : j = i
  · subst hij
    cases b
    · by_cases hj : j < n
      · simp [hj]
      · simp [BitVec.getLsbD_of_ge _ _ (Nat.le_of_not_lt hj)]
    · by_cases hj : j < n
      · simp [hj]
      · simp [hj, BitVec.getLsbD_of_ge _ _ (Nat.le_of_not_lt hj)]
  · have hne : ¬ i = j := fun h => hij h.symm
    cases b
    · by_cases hj : j < n
      · simp [hij, hj]
      · simp [hij, BitVec.getLsbD_of_ge _ _ (Nat.le_of_not_lt hj)]
    · simp [hij, hne, BitVec.getLsbD_twoPow]

theorem scanDown_eq_none {f : Nat → Bool} {k : Nat} :
    scanDown f k = none ↔ ∀ v, 16 ≤ v → v < k + 16 → f v = false := by
  induction k with
  | zero => simp only [scanDown, true_iff]; intro v h1 h2; omega
  | succ k ih =>
    simp only [scanDown]
    split
    · rename_i h
      constructor
      · intro h'; cases h'
      · intro h'
        have := h' (k + 16) (by omega) (by omega)
        simp_all
    · rename_i h
      rw [ih]
      constructor
      · intro h' v h1 h2
        by_cases hv : v = k + 16
        · subst hv; simpa using h
        · exact h' v h1 (by omega)
      · intro h' v h1 h2; exact h' v h1 (by omega)

/-- What `scanDown` answers: the greatest vector of the range for which `f` holds. -/
theorem scanDown_eq_some {f : Nat → Bool} {k v : Nat} :
    scanDown f k = some v ↔
      16 ≤ v ∧ v < k + 16 ∧ f v = true ∧ ∀ w, v < w → w < k + 16 → f w = false := by
  induction k with
  | zero => simp only [scanDown]; constructor
            · intro h; cases h
            · intro h; omega
  | succ k ih =>
    simp only [scanDown]
    split
    · rename_i h
      constructor
      · intro h'
        cases h'
        exact ⟨by omega, by omega, h, fun w h1 h2 => by omega⟩
      · rintro ⟨h1, h2, h3, h4⟩
        by_cases hv : v = k + 16
        · rw [hv]
        · have := h4 (k + 16) (by omega) (by omega)
          simp_all
    · rename_i h
      rw [ih]
      constructor
      · rintro ⟨h1, h2, h3, h4⟩
        refine ⟨h1, by omega, h3, fun w hw1 hw2 => ?_⟩
        by_cases hw : w = k + 16
        · subst hw; simpa using h
        · exact h4 w hw1 (by omega)
      · rintro ⟨h1, h2, h3, h4⟩
        refine ⟨h1, ?_, h3, fun w hw1 hw2 => h4 w hw1 (by omega)⟩
        by_cases hv : v = k + 16
        · subst hv; simp_all
        · omega

theorem topVector_eq_none {f : Nat → Bool} :
    topVector f = none ↔ ∀ v, reportable v → f v = false := by
  unfold topVector reportable
  split
  · rename_i h
    constructor
    · intro h'; cases h'
    · intro h'; have := h' 2 (.inl rfl); simp_all
  · rename_i h2
    split
    · rename_i h
      constructor
      · intro h'; cases h'
      · intro h'; have := h' 0 (.inr (.inl rfl)); simp_all
    · rename_i h0
      rw [scanDown_eq_none]
      constructor
      · rintro h v (rfl | rfl | ⟨h1, h3⟩)
        · simpa using h2
        · simpa using h0
        · exact h v h1 (by omega)
      · intro h v h1 h3; exact h v (.inr (.inr ⟨h1, by omega⟩))

/-- What `topVector` answers: the reportable vector of greatest `prio` for which `f` holds. -/
theorem topVector_eq_some {f : Nat → Bool} {v : Nat} (h : topVector f = some v) :
    reportable v ∧ f v = true ∧ ∀ w, reportable w → f w = true → prio w ≤ prio v := by
  unfold topVector at h
  split at h
  · rename_i h2
    cases h
    refine ⟨.inl rfl, h2, ?_⟩
    rintro w (rfl | rfl | ⟨h1, h3⟩) _ <;> simp [prio]
    split <;> (try split) <;> omega
  · rename_i h2
    split at h
    · rename_i h0
      cases h
      refine ⟨.inr (.inl rfl), h0, ?_⟩
      rintro w (rfl | rfl | ⟨h1, h3⟩) hw
      · simp_all
      · simp
      · have h2 : w ≠ 2 := by omega
        have h0 : w ≠ 0 := by omega
        simp [prio, h2, h0]
        omega
    · rename_i h0
      obtain ⟨h1, h3, hv, hgt⟩ := scanDown_eq_some.1 h
      refine ⟨.inr (.inr ⟨h1, by omega⟩), hv, ?_⟩
      rintro w (rfl | rfl | ⟨h4, h5⟩) hw
      · simp_all
      · simp_all
      · by_cases hlt : v < w
        · have := hgt w hlt (by omega); simp_all
        · simp only [prio]; split <;> split <;> (try split) <;> (try split) <;> omega

end Sys2Proof.Machine
end

