-- ==== Sys2Proof/Laws/Memory.lean ====
section
/-! SUPPORT. Ordinary memory: writes keep the canonical form; a read after a write to the same bytes
gives what was written, and every other byte reads as before; what a load sees while stores are on their
way. -/

namespace Sys2Proof.Machine

theorem Memory.wf_cons (c : Host.Cell) (m : Memory) :
    Memory.wf (c :: m) = true ↔ (∀ d ∈ m, c.1 < d.1) ∧ Memory.wf m = true := by
  simp [Memory.wf]

theorem Memory.mem_writeByte {m : Memory} {a : Nat} {v : Byte} {d : Host.Cell}
    (h : d ∈ Memory.writeByte m a v) : d.1 = a ∨ d ∈ m := by
  induction m with
  | nil => simp_all [Memory.writeByte]
  | cons c m ih =>
    simp only [Memory.writeByte] at h
    split at h
    · rcases List.mem_cons.1 h with rfl | h
      · exact .inl rfl
      · exact .inr h
    · split at h
      · rcases List.mem_cons.1 h with rfl | h
        · exact .inl rfl
        · exact .inr (List.mem_cons_of_mem _ h)
      · rcases List.mem_cons.1 h with rfl | h
        · exact .inr (List.mem_cons_self ..)
        · exact (ih h).imp id (List.mem_cons_of_mem _)

theorem Memory.writeByte_wf {m : Memory} (a : Nat) (v : Byte) (h : Memory.wf m = true) :
    Memory.wf (Memory.writeByte m a v) = true := by
  induction m with
  | nil => rfl
  | cons c m ih =>
    obtain ⟨hc, hm⟩ := (Memory.wf_cons c m).1 h
    simp only [Memory.writeByte]
    split
    · rename_i hlt
      refine (Memory.wf_cons _ _).2 ⟨?_, h⟩
      intro d hd
      rcases List.mem_cons.1 hd with rfl | hd
      · exact hlt
      · exact lt_trans hlt (hc d hd)
    · split
      · rename_i heq
        exact (Memory.wf_cons _ _).2 ⟨fun d hd => heq ▸ hc d hd, hm⟩
      · refine (Memory.wf_cons _ _).2 ⟨?_, ih hm⟩
        intro d hd
        rcases Memory.mem_writeByte hd with h | hd
        · show c.1 < d.1
          omega
        · exact hc d hd

theorem Memory.write_wf {m : Memory} (a n : Nat) (v : Word64) (h : Memory.wf m = true) :
    Memory.wf (Memory.write m a n v) = true := by
  induction n generalizing m a v with
  | zero => exact h
  | succ k ih => exact ih (a + 1) (v >>> 8) (Memory.writeByte_wf a _ h)

theorem Memory.readByte_writeByte_same (m : Memory) (a : Nat) (v : Byte) :
    Memory.readByte (Memory.writeByte m a v) a = some v := by
  induction m with
  | nil => simp [Memory.writeByte, Memory.readByte]
  | cons c m ih =>
    simp only [Memory.writeByte]
    split
    · simp [Memory.readByte]
    · split <;> simp_all [Memory.readByte]

theorem Memory.readByte_writeByte_other {m : Memory} {a b : Nat} (v : Byte) (h : b ≠ a) :
    Memory.readByte (Memory.writeByte m a v) b = Memory.readByte m b := by
  induction m with
  | nil => simp [Memory.writeByte, Memory.readByte, h]
  | cons c m ih =>
    simp only [Memory.writeByte]
    split
    · simp [Memory.readByte, h]
    · split
      · rename_i heq
        subst heq
        simp [Memory.readByte, h]
      · simp [Memory.readByte, ih]

theorem Memory.readByte_write_outside {m : Memory} {a n b : Nat} (v : Word64)
    (h : b < a ∨ a + n ≤ b) : Memory.readByte (Memory.write m a n v) b = Memory.readByte m b := by
  induction n generalizing m a v with
  | zero => rfl
  | succ k ih =>
    rw [Memory.write, ih (v >>> 8) (by omega), Memory.readByte_writeByte_other _ (by omega)]

/-- A listed address was listed before, or is one of those written. -/
theorem Memory.mem_write {m : Memory} {a n : Nat} {v : Word64} {d : Host.Cell}
    (h : d ∈ Memory.write m a n v) : (a ≤ d.1 ∧ d.1 < a + n) ∨ d ∈ m := by
  induction n generalizing m a v with
  | zero => exact .inr h
  | succ k ih =>
    rcases ih h with h | h
    · exact .inl (by omega)
    · exact (Memory.mem_writeByte h).imp (fun h => by omega) id

/-- Byte `k` written is byte `k` of the value. -/
theorem Memory.readByte_write_inside (m : Memory) (a n : Nat) (v : Word64) (k : Nat) (hk : k < n)
    (hn : n ≤ 8) : (m.write a n v).readByte (a + k) = some (v.extractLsb' (8 * k) 8) := by
  induction n generalizing m a v k with
  | zero => omega
  | succ n ih =>
    rw [Memory.write]
    cases k with
    | zero =>
      rw [Memory.readByte_write_outside _ (.inl (by omega)), Nat.add_zero,
        Memory.readByte_writeByte_same]
      simp [BitVec.setWidth_eq_extractLsb']
    | succ k =>
      rw [show a + (k + 1) = a + 1 + k by omega, ih _ _ _ _ (by omega) (by omega)]
      congr 1
      apply BitVec.eq_of_getLsbD_eq
      intro i hi
      simp only [BitVec.getLsbD_extractLsb', hi, decide_true, BitVec.getLsbD_ushiftRight, Bool.true_and]
      congr 1
      omega

/-- A read delivers the value whose bytes are there. -/
theorem readWith_eq (f : Nat → Option Byte) (a n : Nat) (v : Word64) (hn : n ≤ 8)
    (h : ∀ k, k < n → f (a + k) = some (v.extractLsb' (8 * k) 8)) :
    readWith f a n = .ok ((v.extractLsb' 0 (8 * n)).setWidth 64) := by
  induction n generalizing a v with
  | zero => simp [readWith]
  | succ n ih =>
    have h0 := h 0 (by omega)
    simp at h0
    have := ih (a + 1) (v >>> 8) (by omega) (fun k hk => by
      rw [show a + 1 + k = a + (k + 1) by omega, h (k + 1) (by omega)]
      congr 1
      apply BitVec.eq_of_getLsbD_eq
      intro i hi
      simp [hi]
      congr 1
      omega)
    simp [readWith, h0, this]
    apply BitVec.eq_of_getLsbD_eq
    intro i hi
    simp [hi]
    by_cases h8 : i < 8
    · simp [h8]; omega
    · simp [h8]
      by_cases h9 : i - 8 < 8 * n
      · simp [h9, show i < 8 * (n + 1) by omega, show 8 + (i - 8) = i by omega]
        exact BitVec.getLsbD_eq_getElem hi
      · simp [show ¬ i < 8 * (n + 1) by omega]
        omega

/-! ### Stores on their way (log 38) -/

@[simp] theorem PendingStore.passed_addr (x : PendingStore) : x.passed.addr = x.addr := rfl
@[simp] theorem PendingStore.passed_width (x : PendingStore) : x.passed.width = x.width := rfl
@[simp] theorem PendingStore.passed_data (x : PendingStore) : x.passed.data = x.data := rfl

/-- A message waits exactly for the data that a device wrote before it. -/
theorem State.waitsForData_iff {s : State} {i : Nat} :
    s.waitsForData i = true ↔ ∃ x ∈ s.stores, ∃ k, x.msgsBefore = some k ∧ k ≤ i := by
  simp only [State.waitsForData, List.any_eq_true]
  refine exists_congr fun x => and_congr_right fun _ => ?_
  unfold PendingStore.before
  split <;> simp_all

theorem State.waitsForData_false {s : State} {i : Nat} :
    s.waitsForData i = false ↔ ∀ x ∈ s.stores, ∀ k, x.msgsBefore = some k → i < k := by
  rw [← Bool.not_eq_true, State.waitsForData_iff]
  simp only [not_exists, not_and, Nat.not_le]

@[simp] theorem State.seenByte_none (s : State) (a : Nat) : s.seenByte a none = s.mem.readByte a := rfl

/-- A byte that a load sees is memory's, or that of a store on its way that covers it. -/
theorem State.seenByte_cases (s : State) (a : Nat) (c : Option Nat) :
    s.seenByte a c = s.mem.readByte a ∨ ∃ j x, c = some j ∧ s.stores[j]? = some x ∧ x.addr ≤ a ∧
      a < x.addr + x.width ∧ s.seenByte a c = some (x.byte a) := by
  unfold State.seenByte
  split
  · exact .inl rfl
  · split
    · exact .inl rfl
    · rename_i x hx
      split
      · rename_i hc
        simp only [PendingStore.covers, Bool.and_eq_true, decide_eq_true_eq] at hc
        exact .inr ⟨_, x, rfl, hx, hc.1, hc.2, rfl⟩
      · exact .inl rfl

/-- A load that is given a store covering the byte sees the store's byte. -/
theorem State.seenByte_some {s : State} {a j : Nat} {x : PendingStore} (h : s.stores[j]? = some x)
    (h1 : x.addr ≤ a) (h2 : a < x.addr + x.width) : s.seenByte a (some j) = some (x.byte a) := by
  simp [State.seenByte, h, PendingStore.covers, h1, h2]

end Sys2Proof.Machine
end

