-- ==== Sys2Proof/Laws/State.lean ====
section
/-! SUPPORT. What each update leaves in each field: true by rfl, for simp. -/

namespace Sys2Proof.Machine

/-! ### `State.setProc` -/

@[simp] theorem State.setProc_plat (s : State) (p : Nat) (P : Proc) : (s.setProc p P).plat = s.plat := rfl
@[simp] theorem State.setProc_procs (s : State) (p : Nat) (P : Proc) : (s.setProc p P).procs = s.procs.set p P := rfl
@[simp] theorem State.setProc_units (s : State) (p : Nat) (P : Proc) : (s.setProc p P).units = s.units := rfl
@[simp] theorem State.setProc_ioBus (s : State) (p : Nat) (P : Proc) : (s.setProc p P).ioBus = s.ioBus := rfl
@[simp] theorem State.setProc_sysBus (s : State) (p : Nat) (P : Proc) : (s.setProc p P).sysBus = s.sysBus := rfl
@[simp] theorem State.setProc_mem (s : State) (p : Nat) (P : Proc) : (s.setProc p P).mem = s.mem := rfl
@[simp] theorem State.setProc_stores (s : State) (p : Nat) (P : Proc) : (s.setProc p P).stores = s.stores := rfl
@[simp] theorem State.setProc_loads (s : State) (p : Nat) (P : Proc) : (s.setProc p P).loads = s.loads := rfl
@[simp] theorem State.setProc_draws (s : State) (p : Nat) (P : Proc) : (s.setProc p P).draws = s.draws := rfl
@[simp] theorem State.setProc_agenda (s : State) (p : Nat) (P : Proc) : (s.setProc p P).agenda = s.agenda := rfl

/-! ### `State.setUnit` -/

@[simp] theorem State.setUnit_plat (s : State) (u : Nat) (U : IoUnit) : (s.setUnit u U).plat = s.plat := rfl
@[simp] theorem State.setUnit_procs (s : State) (u : Nat) (U : IoUnit) : (s.setUnit u U).procs = s.procs := rfl
@[simp] theorem State.setUnit_units (s : State) (u : Nat) (U : IoUnit) : (s.setUnit u U).units = s.units.set u U := rfl
@[simp] theorem State.setUnit_ioBus (s : State) (u : Nat) (U : IoUnit) : (s.setUnit u U).ioBus = s.ioBus := rfl
@[simp] theorem State.setUnit_sysBus (s : State) (u : Nat) (U : IoUnit) : (s.setUnit u U).sysBus = s.sysBus := rfl
@[simp] theorem State.setUnit_mem (s : State) (u : Nat) (U : IoUnit) : (s.setUnit u U).mem = s.mem := rfl
@[simp] theorem State.setUnit_stores (s : State) (u : Nat) (U : IoUnit) : (s.setUnit u U).stores = s.stores := rfl
@[simp] theorem State.setUnit_loads (s : State) (u : Nat) (U : IoUnit) : (s.setUnit u U).loads = s.loads := rfl
@[simp] theorem State.setUnit_draws (s : State) (u : Nat) (U : IoUnit) : (s.setUnit u U).draws = s.draws := rfl
@[simp] theorem State.setUnit_agenda (s : State) (u : Nat) (U : IoUnit) : (s.setUnit u U).agenda = s.agenda := rfl

/-! ### `State.tick` -/

@[simp] theorem State.tick_plat (s : State) : (s.tick).plat = s.plat := rfl
@[simp] theorem State.tick_procs (s : State) : (s.tick).procs = s.procs := rfl
@[simp] theorem State.tick_units (s : State) : (s.tick).units = s.units := rfl
@[simp] theorem State.tick_ioBus (s : State) : (s.tick).ioBus = s.ioBus := rfl
@[simp] theorem State.tick_sysBus (s : State) : (s.tick).sysBus = s.sysBus := rfl
@[simp] theorem State.tick_mem (s : State) : (s.tick).mem = s.mem := rfl
@[simp] theorem State.tick_stores (s : State) : (s.tick).stores = s.stores := rfl
@[simp] theorem State.tick_loads (s : State) : (s.tick).loads = s.loads := rfl
@[simp] theorem State.tick_draws (s : State) : (s.tick).draws = s.draws + 1 := rfl
@[simp] theorem State.tick_agenda (s : State) : (s.tick).agenda = s.agenda := rfl

/-! ### `State.sendSys` -/

@[simp] theorem State.sendSys_plat (s : State) (b : Nat) (m : Msg) : (s.sendSys b m).plat = s.plat := rfl
@[simp] theorem State.sendSys_procs (s : State) (b : Nat) (m : Msg) : (s.sendSys b m).procs = s.procs := rfl
@[simp] theorem State.sendSys_units (s : State) (b : Nat) (m : Msg) : (s.sendSys b m).units = s.units := rfl
@[simp] theorem State.sendSys_ioBus (s : State) (b : Nat) (m : Msg) : (s.sendSys b m).ioBus = s.ioBus := rfl
@[simp] theorem State.sendSys_sysBus (s : State) (b : Nat) (m : Msg) : (s.sendSys b m).sysBus = s.sysBus ++ [(b, m)] := rfl
@[simp] theorem State.sendSys_mem (s : State) (b : Nat) (m : Msg) : (s.sendSys b m).mem = s.mem := rfl
@[simp] theorem State.sendSys_stores (s : State) (b : Nat) (m : Msg) : (s.sendSys b m).stores = s.stores := rfl
@[simp] theorem State.sendSys_loads (s : State) (b : Nat) (m : Msg) : (s.sendSys b m).loads = s.loads := rfl
@[simp] theorem State.sendSys_draws (s : State) (b : Nat) (m : Msg) : (s.sendSys b m).draws = s.draws := rfl
@[simp] theorem State.sendSys_agenda (s : State) (b : Nat) (m : Msg) : (s.sendSys b m).agenda = s.agenda := rfl

/-! ### `State.sendIo` -/

@[simp] theorem State.sendIo_plat (s : State) (m : Msg) : (s.sendIo m).plat = s.plat := rfl
@[simp] theorem State.sendIo_procs (s : State) (m : Msg) : (s.sendIo m).procs = s.procs := rfl
@[simp] theorem State.sendIo_units (s : State) (m : Msg) : (s.sendIo m).units = s.units := rfl
@[simp] theorem State.sendIo_ioBus (s : State) (m : Msg) : (s.sendIo m).ioBus = s.ioBus ++ [m] := rfl
@[simp] theorem State.sendIo_sysBus (s : State) (m : Msg) : (s.sendIo m).sysBus = s.sysBus := rfl
@[simp] theorem State.sendIo_mem (s : State) (m : Msg) : (s.sendIo m).mem = s.mem := rfl
@[simp] theorem State.sendIo_stores (s : State) (m : Msg) : (s.sendIo m).stores = s.stores := rfl
@[simp] theorem State.sendIo_loads (s : State) (m : Msg) : (s.sendIo m).loads = s.loads := rfl
@[simp] theorem State.sendIo_draws (s : State) (m : Msg) : (s.sendIo m).draws = s.draws := rfl
@[simp] theorem State.sendIo_agenda (s : State) (m : Msg) : (s.sendIo m).agenda = s.agenda := rfl

/-! ### `Proc.deliver` -/

@[simp] theorem Proc.deliver_bus (P : Proc) (r : Word64) : (P.deliver r).bus = P.bus := rfl
@[simp] theorem Proc.deliver_hasLint (P : Proc) (r : Word64) : (P.deliver r).hasLint = P.hasLint := rfl
@[simp] theorem Proc.deliver_lid (P : Proc) (r : Word64) : (P.deliver r).lid = P.lid := rfl
@[simp] theorem Proc.deliver_irr (P : Proc) (r : Word64) : (P.deliver r).irr = P.irr := rfl
@[simp] theorem Proc.deliver_nmiP (P : Proc) (r : Word64) : (P.deliver r).nmiP = P.nmiP := rfl
@[simp] theorem Proc.deliver_extP (P : Proc) (r : Word64) : (P.deliver r).extP = P.extP := rfl
@[simp] theorem Proc.deliver_insvc (P : Proc) (r : Word64) : (P.deliver r).insvc = P.insvc := rfl
@[simp] theorem Proc.deliver_eoiq (P : Proc) (r : Word64) : (P.deliver r).eoiq = P.eoiq := rfl
@[simp] theorem Proc.deliver_tpr (P : Proc) (r : Word64) : (P.deliver r).tpr = P.tpr := rfl
@[simp] theorem Proc.deliver_itv (P : Proc) (r : Word64) : (P.deliver r).itv = P.itv := rfl
@[simp] theorem Proc.deliver_pmv (P : Proc) (r : Word64) : (P.deliver r).pmv = P.pmv := rfl
@[simp] theorem Proc.deliver_cmcv (P : Proc) (r : Word64) : (P.deliver r).cmcv = P.cmcv := rfl
@[simp] theorem Proc.deliver_lrr0 (P : Proc) (r : Word64) : (P.deliver r).lrr0 = P.lrr0 := rfl
@[simp] theorem Proc.deliver_lrr1 (P : Proc) (r : Word64) : (P.deliver r).lrr1 = P.lrr1 := rfl
@[simp] theorem Proc.deliver_psrI (P : Proc) (r : Word64) : (P.deliver r).psrI = P.psrI := rfl
@[simp] theorem Proc.deliver_psrIc (P : Proc) (r : Word64) : (P.deliver r).psrIc = P.psrIc := rfl
@[simp] theorem Proc.deliver_ipsr (P : Proc) (r : Word64) : (P.deliver r).ipsr = P.ipsr := rfl
@[simp] theorem Proc.deliver_pmiP (P : Proc) (r : Word64) : (P.deliver r).pmiP = P.pmiP := rfl
@[simp] theorem Proc.deliver_initP (P : Proc) (r : Word64) : (P.deliver r).initP = P.initP := rfl
@[simp] theorem Proc.deliver_lint0 (P : Proc) (r : Word64) : (P.deliver r).lint0 = P.lint0 := rfl
@[simp] theorem Proc.deliver_lint1 (P : Proc) (r : Word64) : (P.deliver r).lint1 = P.lint1 := rfl
@[simp] theorem Proc.deliver_nmiPin (P : Proc) (r : Word64) : (P.deliver r).nmiPin = P.nmiPin := rfl
@[simp] theorem Proc.deliver_pmiPin (P : Proc) (r : Word64) : (P.deliver r).pmiPin = P.pmiPin := rfl
@[simp] theorem Proc.deliver_initPin (P : Proc) (r : Word64) : (P.deliver r).initPin = P.initPin := rfl
@[simp] theorem Proc.deliver_xtp (P : Proc) (r : Word64) : (P.deliver r).xtp = P.xtp := rfl
@[simp] theorem Proc.deliver_flow (P : Proc) (r : Word64) : (P.deliver r).flow = P.flow := rfl
@[simp] theorem Proc.deliver_event (P : Proc) (r : Word64) : (P.deliver r).event = P.event := rfl
@[simp] theorem Proc.deliver_result (P : Proc) (r : Word64) : (P.deliver r).result = r := rfl

/-! ### `Proc.markInService` -/

@[simp] theorem Proc.markInService_bus (P : Proc) (v : Nat) : (P.markInService v).bus = P.bus := rfl
@[simp] theorem Proc.markInService_hasLint (P : Proc) (v : Nat) : (P.markInService v).hasLint = P.hasLint := rfl
@[simp] theorem Proc.markInService_lid (P : Proc) (v : Nat) : (P.markInService v).lid = P.lid := rfl
@[simp] theorem Proc.markInService_irr (P : Proc) (v : Nat) : (P.markInService v).irr = P.irr := rfl
@[simp] theorem Proc.markInService_nmiP (P : Proc) (v : Nat) : (P.markInService v).nmiP = P.nmiP := rfl
@[simp] theorem Proc.markInService_extP (P : Proc) (v : Nat) : (P.markInService v).extP = P.extP := rfl
@[simp] theorem Proc.markInService_insvc (P : Proc) (v : Nat) : (P.markInService v).insvc = writeBit P.insvc v true := rfl
@[simp] theorem Proc.markInService_eoiq (P : Proc) (v : Nat) : (P.markInService v).eoiq = P.eoiq := rfl
@[simp] theorem Proc.markInService_tpr (P : Proc) (v : Nat) : (P.markInService v).tpr = P.tpr := rfl
@[simp] theorem Proc.markInService_itv (P : Proc) (v : Nat) : (P.markInService v).itv = P.itv := rfl
@[simp] theorem Proc.markInService_pmv (P : Proc) (v : Nat) : (P.markInService v).pmv = P.pmv := rfl
@[simp] theorem Proc.markInService_cmcv (P : Proc) (v : Nat) : (P.markInService v).cmcv = P.cmcv := rfl
@[simp] theorem Proc.markInService_lrr0 (P : Proc) (v : Nat) : (P.markInService v).lrr0 = P.lrr0 := rfl
@[simp] theorem Proc.markInService_lrr1 (P : Proc) (v : Nat) : (P.markInService v).lrr1 = P.lrr1 := rfl
@[simp] theorem Proc.markInService_psrI (P : Proc) (v : Nat) : (P.markInService v).psrI = P.psrI := rfl
@[simp] theorem Proc.markInService_psrIc (P : Proc) (v : Nat) : (P.markInService v).psrIc = P.psrIc := rfl
@[simp] theorem Proc.markInService_ipsr (P : Proc) (v : Nat) : (P.markInService v).ipsr = P.ipsr := rfl
@[simp] theorem Proc.markInService_pmiP (P : Proc) (v : Nat) : (P.markInService v).pmiP = P.pmiP := rfl
@[simp] theorem Proc.markInService_initP (P : Proc) (v : Nat) : (P.markInService v).initP = P.initP := rfl
@[simp] theorem Proc.markInService_lint0 (P : Proc) (v : Nat) : (P.markInService v).lint0 = P.lint0 := rfl
@[simp] theorem Proc.markInService_lint1 (P : Proc) (v : Nat) : (P.markInService v).lint1 = P.lint1 := rfl
@[simp] theorem Proc.markInService_nmiPin (P : Proc) (v : Nat) : (P.markInService v).nmiPin = P.nmiPin := rfl
@[simp] theorem Proc.markInService_pmiPin (P : Proc) (v : Nat) : (P.markInService v).pmiPin = P.pmiPin := rfl
@[simp] theorem Proc.markInService_initPin (P : Proc) (v : Nat) : (P.markInService v).initPin = P.initPin := rfl
@[simp] theorem Proc.markInService_xtp (P : Proc) (v : Nat) : (P.markInService v).xtp = P.xtp := rfl
@[simp] theorem Proc.markInService_flow (P : Proc) (v : Nat) : (P.markInService v).flow = P.flow := rfl
@[simp] theorem Proc.markInService_event (P : Proc) (v : Nat) : (P.markInService v).event = P.event := rfl
@[simp] theorem Proc.markInService_result (P : Proc) (v : Nat) : (P.markInService v).result = P.result := rfl

/-! ### `Proc.acceptInterrupt` -/

@[simp] theorem Proc.acceptInterrupt_bus (P : Proc) (a : Word64) : (P.acceptInterrupt a).bus = P.bus := rfl
@[simp] theorem Proc.acceptInterrupt_hasLint (P : Proc) (a : Word64) : (P.acceptInterrupt a).hasLint = P.hasLint := rfl
@[simp] theorem Proc.acceptInterrupt_lid (P : Proc) (a : Word64) : (P.acceptInterrupt a).lid = P.lid := rfl
@[simp] theorem Proc.acceptInterrupt_irr (P : Proc) (a : Word64) : (P.acceptInterrupt a).irr = P.irr := rfl
@[simp] theorem Proc.acceptInterrupt_nmiP (P : Proc) (a : Word64) : (P.acceptInterrupt a).nmiP = P.nmiP := rfl
@[simp] theorem Proc.acceptInterrupt_extP (P : Proc) (a : Word64) : (P.acceptInterrupt a).extP = P.extP := rfl
@[simp] theorem Proc.acceptInterrupt_insvc (P : Proc) (a : Word64) : (P.acceptInterrupt a).insvc = P.insvc := rfl
@[simp] theorem Proc.acceptInterrupt_eoiq (P : Proc) (a : Word64) : (P.acceptInterrupt a).eoiq = P.eoiq := rfl
@[simp] theorem Proc.acceptInterrupt_tpr (P : Proc) (a : Word64) : (P.acceptInterrupt a).tpr = P.tpr := rfl
@[simp] theorem Proc.acceptInterrupt_itv (P : Proc) (a : Word64) : (P.acceptInterrupt a).itv = P.itv := rfl
@[simp] theorem Proc.acceptInterrupt_pmv (P : Proc) (a : Word64) : (P.acceptInterrupt a).pmv = P.pmv := rfl
@[simp] theorem Proc.acceptInterrupt_cmcv (P : Proc) (a : Word64) : (P.acceptInterrupt a).cmcv = P.cmcv := rfl
@[simp] theorem Proc.acceptInterrupt_lrr0 (P : Proc) (a : Word64) : (P.acceptInterrupt a).lrr0 = P.lrr0 := rfl
@[simp] theorem Proc.acceptInterrupt_lrr1 (P : Proc) (a : Word64) : (P.acceptInterrupt a).lrr1 = P.lrr1 := rfl
@[simp] theorem Proc.acceptInterrupt_psrI (P : Proc) (a : Word64) : (P.acceptInterrupt a).psrI = Ser.same false := rfl
@[simp] theorem Proc.acceptInterrupt_psrIc (P : Proc) (a : Word64) : (P.acceptInterrupt a).psrIc = Ser.same false := rfl
@[simp] theorem Proc.acceptInterrupt_ipsr (P : Proc) (a : Word64) : (P.acceptInterrupt a).ipsr = { i := P.psrI.arch, ic := P.psrIc.arch } := rfl
@[simp] theorem Proc.acceptInterrupt_pmiP (P : Proc) (a : Word64) : (P.acceptInterrupt a).pmiP = P.pmiP := rfl
@[simp] theorem Proc.acceptInterrupt_initP (P : Proc) (a : Word64) : (P.acceptInterrupt a).initP = P.initP := rfl
@[simp] theorem Proc.acceptInterrupt_lint0 (P : Proc) (a : Word64) : (P.acceptInterrupt a).lint0 = P.lint0 := rfl
@[simp] theorem Proc.acceptInterrupt_lint1 (P : Proc) (a : Word64) : (P.acceptInterrupt a).lint1 = P.lint1 := rfl
@[simp] theorem Proc.acceptInterrupt_nmiPin (P : Proc) (a : Word64) : (P.acceptInterrupt a).nmiPin = P.nmiPin := rfl
@[simp] theorem Proc.acceptInterrupt_pmiPin (P : Proc) (a : Word64) : (P.acceptInterrupt a).pmiPin = P.pmiPin := rfl
@[simp] theorem Proc.acceptInterrupt_initPin (P : Proc) (a : Word64) : (P.acceptInterrupt a).initPin = P.initPin := rfl
@[simp] theorem Proc.acceptInterrupt_xtp (P : Proc) (a : Word64) : (P.acceptInterrupt a).xtp = P.xtp := rfl
@[simp] theorem Proc.acceptInterrupt_flow (P : Proc) (a : Word64) : (P.acceptInterrupt a).flow = P.flow := rfl
@[simp] theorem Proc.acceptInterrupt_event (P : Proc) (a : Word64) : (P.acceptInterrupt a).event = .extIntEntry a := rfl
@[simp] theorem Proc.acceptInterrupt_result (P : Proc) (a : Word64) : (P.acceptInterrupt a).result = P.result := rfl

/-! ### `Proc.returnFromInterruption` -/

@[simp] theorem Proc.returnFromInterruption_bus (P : Proc) : (P.returnFromInterruption).bus = P.bus := rfl
@[simp] theorem Proc.returnFromInterruption_hasLint (P : Proc) : (P.returnFromInterruption).hasLint = P.hasLint := rfl
@[simp] theorem Proc.returnFromInterruption_lid (P : Proc) : (P.returnFromInterruption).lid = P.lid := rfl
@[simp] theorem Proc.returnFromInterruption_irr (P : Proc) : (P.returnFromInterruption).irr = P.irr := rfl
@[simp] theorem Proc.returnFromInterruption_nmiP (P : Proc) : (P.returnFromInterruption).nmiP = P.nmiP := rfl
@[simp] theorem Proc.returnFromInterruption_extP (P : Proc) : (P.returnFromInterruption).extP = P.extP := rfl
@[simp] theorem Proc.returnFromInterruption_insvc (P : Proc) : (P.returnFromInterruption).insvc = P.insvc := rfl
@[simp] theorem Proc.returnFromInterruption_eoiq (P : Proc) : (P.returnFromInterruption).eoiq = P.eoiq := rfl
@[simp] theorem Proc.returnFromInterruption_tpr (P : Proc) : (P.returnFromInterruption).tpr = P.tpr := rfl
@[simp] theorem Proc.returnFromInterruption_itv (P : Proc) : (P.returnFromInterruption).itv = P.itv := rfl
@[simp] theorem Proc.returnFromInterruption_pmv (P : Proc) : (P.returnFromInterruption).pmv = P.pmv := rfl
@[simp] theorem Proc.returnFromInterruption_cmcv (P : Proc) : (P.returnFromInterruption).cmcv = P.cmcv := rfl
@[simp] theorem Proc.returnFromInterruption_lrr0 (P : Proc) : (P.returnFromInterruption).lrr0 = P.lrr0 := rfl
@[simp] theorem Proc.returnFromInterruption_lrr1 (P : Proc) : (P.returnFromInterruption).lrr1 = P.lrr1 := rfl
@[simp] theorem Proc.returnFromInterruption_psrI (P : Proc) : (P.returnFromInterruption).psrI = Ser.same P.ipsr.i := rfl
@[simp] theorem Proc.returnFromInterruption_psrIc (P : Proc) : (P.returnFromInterruption).psrIc = Ser.same P.ipsr.ic := rfl
@[simp] theorem Proc.returnFromInterruption_ipsr (P : Proc) : (P.returnFromInterruption).ipsr = P.ipsr := rfl
@[simp] theorem Proc.returnFromInterruption_pmiP (P : Proc) : (P.returnFromInterruption).pmiP = P.pmiP := rfl
@[simp] theorem Proc.returnFromInterruption_initP (P : Proc) : (P.returnFromInterruption).initP = P.initP := rfl
@[simp] theorem Proc.returnFromInterruption_lint0 (P : Proc) : (P.returnFromInterruption).lint0 = P.lint0 := rfl
@[simp] theorem Proc.returnFromInterruption_lint1 (P : Proc) : (P.returnFromInterruption).lint1 = P.lint1 := rfl
@[simp] theorem Proc.returnFromInterruption_nmiPin (P : Proc) : (P.returnFromInterruption).nmiPin = P.nmiPin := rfl
@[simp] theorem Proc.returnFromInterruption_pmiPin (P : Proc) : (P.returnFromInterruption).pmiPin = P.pmiPin := rfl
@[simp] theorem Proc.returnFromInterruption_initPin (P : Proc) : (P.returnFromInterruption).initPin = P.initPin := rfl
@[simp] theorem Proc.returnFromInterruption_xtp (P : Proc) : (P.returnFromInterruption).xtp = P.xtp := rfl
@[simp] theorem Proc.returnFromInterruption_flow (P : Proc) : (P.returnFromInterruption).flow = P.flow := rfl
@[simp] theorem Proc.returnFromInterruption_event (P : Proc) : (P.returnFromInterruption).event = .resumed := rfl
@[simp] theorem Proc.returnFromInterruption_result (P : Proc) : (P.returnFromInterruption).result = P.result := rfl

/-! ### `Proc.settleAll` -/

@[simp] theorem Proc.settleAll_bus (P : Proc) : (P.settleAll).bus = P.bus := rfl
@[simp] theorem Proc.settleAll_hasLint (P : Proc) : (P.settleAll).hasLint = P.hasLint := rfl
@[simp] theorem Proc.settleAll_lid (P : Proc) : (P.settleAll).lid = P.lid.settled := rfl
@[simp] theorem Proc.settleAll_irr (P : Proc) : (P.settleAll).irr = P.irr := rfl
@[simp] theorem Proc.settleAll_nmiP (P : Proc) : (P.settleAll).nmiP = P.nmiP := rfl
@[simp] theorem Proc.settleAll_extP (P : Proc) : (P.settleAll).extP = P.extP := rfl
@[simp] theorem Proc.settleAll_insvc (P : Proc) : (P.settleAll).insvc = P.insvc := rfl
@[simp] theorem Proc.settleAll_eoiq (P : Proc) : (P.settleAll).eoiq = P.eoiq := rfl
@[simp] theorem Proc.settleAll_tpr (P : Proc) : (P.settleAll).tpr = P.tpr.settled := rfl
@[simp] theorem Proc.settleAll_itv (P : Proc) : (P.settleAll).itv = P.itv.settled := rfl
@[simp] theorem Proc.settleAll_pmv (P : Proc) : (P.settleAll).pmv = P.pmv.settled := rfl
@[simp] theorem Proc.settleAll_cmcv (P : Proc) : (P.settleAll).cmcv = P.cmcv.settled := rfl
@[simp] theorem Proc.settleAll_lrr0 (P : Proc) : (P.settleAll).lrr0 = P.lrr0.settled := rfl
@[simp] theorem Proc.settleAll_lrr1 (P : Proc) : (P.settleAll).lrr1 = P.lrr1.settled := rfl
@[simp] theorem Proc.settleAll_psrI (P : Proc) : (P.settleAll).psrI = P.psrI.settled := rfl
@[simp] theorem Proc.settleAll_psrIc (P : Proc) : (P.settleAll).psrIc = P.psrIc.settled := rfl
@[simp] theorem Proc.settleAll_ipsr (P : Proc) : (P.settleAll).ipsr = P.ipsr := rfl
@[simp] theorem Proc.settleAll_pmiP (P : Proc) : (P.settleAll).pmiP = P.pmiP := rfl
@[simp] theorem Proc.settleAll_initP (P : Proc) : (P.settleAll).initP = P.initP := rfl
@[simp] theorem Proc.settleAll_lint0 (P : Proc) : (P.settleAll).lint0 = P.lint0 := rfl
@[simp] theorem Proc.settleAll_lint1 (P : Proc) : (P.settleAll).lint1 = P.lint1 := rfl
@[simp] theorem Proc.settleAll_nmiPin (P : Proc) : (P.settleAll).nmiPin = P.nmiPin := rfl
@[simp] theorem Proc.settleAll_pmiPin (P : Proc) : (P.settleAll).pmiPin = P.pmiPin := rfl
@[simp] theorem Proc.settleAll_initPin (P : Proc) : (P.settleAll).initPin = P.initPin := rfl
@[simp] theorem Proc.settleAll_xtp (P : Proc) : (P.settleAll).xtp = P.xtp := rfl
@[simp] theorem Proc.settleAll_flow (P : Proc) : (P.settleAll).flow = P.flow := rfl
@[simp] theorem Proc.settleAll_event (P : Proc) : (P.settleAll).event = P.event := rfl
@[simp] theorem Proc.settleAll_result (P : Proc) : (P.settleAll).result = P.result := rfl

/-! ### `Proc.pendNmi` -/

@[simp] theorem Proc.pendNmi_bus (P : Proc) : (P.pendNmi).bus = P.bus := rfl
@[simp] theorem Proc.pendNmi_hasLint (P : Proc) : (P.pendNmi).hasLint = P.hasLint := rfl
@[simp] theorem Proc.pendNmi_lid (P : Proc) : (P.pendNmi).lid = P.lid := rfl
@[simp] theorem Proc.pendNmi_irr (P : Proc) : (P.pendNmi).irr = P.irr := rfl
@[simp] theorem Proc.pendNmi_nmiP (P : Proc) : (P.pendNmi).nmiP = true := rfl
@[simp] theorem Proc.pendNmi_extP (P : Proc) : (P.pendNmi).extP = P.extP := rfl
@[simp] theorem Proc.pendNmi_insvc (P : Proc) : (P.pendNmi).insvc = P.insvc := rfl
@[simp] theorem Proc.pendNmi_eoiq (P : Proc) : (P.pendNmi).eoiq = P.eoiq := rfl
@[simp] theorem Proc.pendNmi_tpr (P : Proc) : (P.pendNmi).tpr = P.tpr := rfl
@[simp] theorem Proc.pendNmi_itv (P : Proc) : (P.pendNmi).itv = P.itv := rfl
@[simp] theorem Proc.pendNmi_pmv (P : Proc) : (P.pendNmi).pmv = P.pmv := rfl
@[simp] theorem Proc.pendNmi_cmcv (P : Proc) : (P.pendNmi).cmcv = P.cmcv := rfl
@[simp] theorem Proc.pendNmi_lrr0 (P : Proc) : (P.pendNmi).lrr0 = P.lrr0 := rfl
@[simp] theorem Proc.pendNmi_lrr1 (P : Proc) : (P.pendNmi).lrr1 = P.lrr1 := rfl
@[simp] theorem Proc.pendNmi_psrI (P : Proc) : (P.pendNmi).psrI = P.psrI := rfl
@[simp] theorem Proc.pendNmi_psrIc (P : Proc) : (P.pendNmi).psrIc = P.psrIc := rfl
@[simp] theorem Proc.pendNmi_ipsr (P : Proc) : (P.pendNmi).ipsr = P.ipsr := rfl
@[simp] theorem Proc.pendNmi_pmiP (P : Proc) : (P.pendNmi).pmiP = P.pmiP := rfl
@[simp] theorem Proc.pendNmi_initP (P : Proc) : (P.pendNmi).initP = P.initP := rfl
@[simp] theorem Proc.pendNmi_lint0 (P : Proc) : (P.pendNmi).lint0 = P.lint0 := rfl
@[simp] theorem Proc.pendNmi_lint1 (P : Proc) : (P.pendNmi).lint1 = P.lint1 := rfl
@[simp] theorem Proc.pendNmi_nmiPin (P : Proc) : (P.pendNmi).nmiPin = P.nmiPin := rfl
@[simp] theorem Proc.pendNmi_pmiPin (P : Proc) : (P.pendNmi).pmiPin = P.pmiPin := rfl
@[simp] theorem Proc.pendNmi_initPin (P : Proc) : (P.pendNmi).initPin = P.initPin := rfl
@[simp] theorem Proc.pendNmi_xtp (P : Proc) : (P.pendNmi).xtp = P.xtp := rfl
@[simp] theorem Proc.pendNmi_flow (P : Proc) : (P.pendNmi).flow = P.flow := rfl
@[simp] theorem Proc.pendNmi_event (P : Proc) : (P.pendNmi).event = P.event := rfl
@[simp] theorem Proc.pendNmi_result (P : Proc) : (P.pendNmi).result = P.result := rfl

/-! ### `Proc.pendInit` -/

@[simp] theorem Proc.pendInit_bus (P : Proc) : (P.pendInit).bus = P.bus := rfl
@[simp] theorem Proc.pendInit_hasLint (P : Proc) : (P.pendInit).hasLint = P.hasLint := rfl
@[simp] theorem Proc.pendInit_lid (P : Proc) : (P.pendInit).lid = P.lid := rfl
@[simp] theorem Proc.pendInit_irr (P : Proc) : (P.pendInit).irr = P.irr := rfl
@[simp] theorem Proc.pendInit_nmiP (P : Proc) : (P.pendInit).nmiP = P.nmiP := rfl
@[simp] theorem Proc.pendInit_extP (P : Proc) : (P.pendInit).extP = P.extP := rfl
@[simp] theorem Proc.pendInit_insvc (P : Proc) : (P.pendInit).insvc = P.insvc := rfl
@[simp] theorem Proc.pendInit_eoiq (P : Proc) : (P.pendInit).eoiq = P.eoiq := rfl
@[simp] theorem Proc.pendInit_tpr (P : Proc) : (P.pendInit).tpr = P.tpr := rfl
@[simp] theorem Proc.pendInit_itv (P : Proc) : (P.pendInit).itv = P.itv := rfl
@[simp] theorem Proc.pendInit_pmv (P : Proc) : (P.pendInit).pmv = P.pmv := rfl
@[simp] theorem Proc.pendInit_cmcv (P : Proc) : (P.pendInit).cmcv = P.cmcv := rfl
@[simp] theorem Proc.pendInit_lrr0 (P : Proc) : (P.pendInit).lrr0 = P.lrr0 := rfl
@[simp] theorem Proc.pendInit_lrr1 (P : Proc) : (P.pendInit).lrr1 = P.lrr1 := rfl
@[simp] theorem Proc.pendInit_psrI (P : Proc) : (P.pendInit).psrI = P.psrI := rfl
@[simp] theorem Proc.pendInit_psrIc (P : Proc) : (P.pendInit).psrIc = P.psrIc := rfl
@[simp] theorem Proc.pendInit_ipsr (P : Proc) : (P.pendInit).ipsr = P.ipsr := rfl
@[simp] theorem Proc.pendInit_pmiP (P : Proc) : (P.pendInit).pmiP = P.pmiP := rfl
@[simp] theorem Proc.pendInit_initP (P : Proc) : (P.pendInit).initP = true := rfl
@[simp] theorem Proc.pendInit_lint0 (P : Proc) : (P.pendInit).lint0 = P.lint0 := rfl
@[simp] theorem Proc.pendInit_lint1 (P : Proc) : (P.pendInit).lint1 = P.lint1 := rfl
@[simp] theorem Proc.pendInit_nmiPin (P : Proc) : (P.pendInit).nmiPin = P.nmiPin := rfl
@[simp] theorem Proc.pendInit_pmiPin (P : Proc) : (P.pendInit).pmiPin = P.pmiPin := rfl
@[simp] theorem Proc.pendInit_initPin (P : Proc) : (P.pendInit).initPin = P.initPin := rfl
@[simp] theorem Proc.pendInit_xtp (P : Proc) : (P.pendInit).xtp = P.xtp := rfl
@[simp] theorem Proc.pendInit_flow (P : Proc) : (P.pendInit).flow = P.flow := rfl
@[simp] theorem Proc.pendInit_event (P : Proc) : (P.pendInit).event = P.event := rfl
@[simp] theorem Proc.pendInit_result (P : Proc) : (P.pendInit).result = P.result := rfl

/-! ### `Proc.pendExtInt` -/

@[simp] theorem Proc.pendExtInt_bus (P : Proc) : (P.pendExtInt).bus = P.bus := rfl
@[simp] theorem Proc.pendExtInt_hasLint (P : Proc) : (P.pendExtInt).hasLint = P.hasLint := rfl
@[simp] theorem Proc.pendExtInt_lid (P : Proc) : (P.pendExtInt).lid = P.lid := rfl
@[simp] theorem Proc.pendExtInt_irr (P : Proc) : (P.pendExtInt).irr = P.irr := rfl
@[simp] theorem Proc.pendExtInt_nmiP (P : Proc) : (P.pendExtInt).nmiP = P.nmiP := rfl
@[simp] theorem Proc.pendExtInt_extP (P : Proc) : (P.pendExtInt).extP = true := rfl
@[simp] theorem Proc.pendExtInt_insvc (P : Proc) : (P.pendExtInt).insvc = P.insvc := rfl
@[simp] theorem Proc.pendExtInt_eoiq (P : Proc) : (P.pendExtInt).eoiq = P.eoiq := rfl
@[simp] theorem Proc.pendExtInt_tpr (P : Proc) : (P.pendExtInt).tpr = P.tpr := rfl
@[simp] theorem Proc.pendExtInt_itv (P : Proc) : (P.pendExtInt).itv = P.itv := rfl
@[simp] theorem Proc.pendExtInt_pmv (P : Proc) : (P.pendExtInt).pmv = P.pmv := rfl
@[simp] theorem Proc.pendExtInt_cmcv (P : Proc) : (P.pendExtInt).cmcv = P.cmcv := rfl
@[simp] theorem Proc.pendExtInt_lrr0 (P : Proc) : (P.pendExtInt).lrr0 = P.lrr0 := rfl
@[simp] theorem Proc.pendExtInt_lrr1 (P : Proc) : (P.pendExtInt).lrr1 = P.lrr1 := rfl
@[simp] theorem Proc.pendExtInt_psrI (P : Proc) : (P.pendExtInt).psrI = P.psrI := rfl
@[simp] theorem Proc.pendExtInt_psrIc (P : Proc) : (P.pendExtInt).psrIc = P.psrIc := rfl
@[simp] theorem Proc.pendExtInt_ipsr (P : Proc) : (P.pendExtInt).ipsr = P.ipsr := rfl
@[simp] theorem Proc.pendExtInt_pmiP (P : Proc) : (P.pendExtInt).pmiP = P.pmiP := rfl
@[simp] theorem Proc.pendExtInt_initP (P : Proc) : (P.pendExtInt).initP = P.initP := rfl
@[simp] theorem Proc.pendExtInt_lint0 (P : Proc) : (P.pendExtInt).lint0 = P.lint0 := rfl
@[simp] theorem Proc.pendExtInt_lint1 (P : Proc) : (P.pendExtInt).lint1 = P.lint1 := rfl
@[simp] theorem Proc.pendExtInt_nmiPin (P : Proc) : (P.pendExtInt).nmiPin = P.nmiPin := rfl
@[simp] theorem Proc.pendExtInt_pmiPin (P : Proc) : (P.pendExtInt).pmiPin = P.pmiPin := rfl
@[simp] theorem Proc.pendExtInt_initPin (P : Proc) : (P.pendExtInt).initPin = P.initPin := rfl
@[simp] theorem Proc.pendExtInt_xtp (P : Proc) : (P.pendExtInt).xtp = P.xtp := rfl
@[simp] theorem Proc.pendExtInt_flow (P : Proc) : (P.pendExtInt).flow = P.flow := rfl
@[simp] theorem Proc.pendExtInt_event (P : Proc) : (P.pendExtInt).event = P.event := rfl
@[simp] theorem Proc.pendExtInt_result (P : Proc) : (P.pendExtInt).result = P.result := rfl

/-! ### `Proc.clearPending`, `Proc.setLint` -/

@[simp] theorem Proc.clearPending_bus (P : Proc) (v : Nat) : (P.clearPending v).bus = P.bus := by
  unfold Proc.clearPending; split <;> [rfl; (split <;> rfl)]
@[simp] theorem Proc.clearPending_hasLint (P : Proc) (v : Nat) : (P.clearPending v).hasLint = P.hasLint := by
  unfold Proc.clearPending; split <;> [rfl; (split <;> rfl)]
@[simp] theorem Proc.clearPending_lid (P : Proc) (v : Nat) : (P.clearPending v).lid = P.lid := by
  unfold Proc.clearPending; split <;> [rfl; (split <;> rfl)]
@[simp] theorem Proc.clearPending_insvc (P : Proc) (v : Nat) : (P.clearPending v).insvc = P.insvc := by
  unfold Proc.clearPending; split <;> [rfl; (split <;> rfl)]
@[simp] theorem Proc.clearPending_eoiq (P : Proc) (v : Nat) : (P.clearPending v).eoiq = P.eoiq := by
  unfold Proc.clearPending; split <;> [rfl; (split <;> rfl)]
@[simp] theorem Proc.clearPending_tpr (P : Proc) (v : Nat) : (P.clearPending v).tpr = P.tpr := by
  unfold Proc.clearPending; split <;> [rfl; (split <;> rfl)]
@[simp] theorem Proc.clearPending_itv (P : Proc) (v : Nat) : (P.clearPending v).itv = P.itv := by
  unfold Proc.clearPending; split <;> [rfl; (split <;> rfl)]
@[simp] theorem Proc.clearPending_pmv (P : Proc) (v : Nat) : (P.clearPending v).pmv = P.pmv := by
  unfold Proc.clearPending; split <;> [rfl; (split <;> rfl)]
@[simp] theorem Proc.clearPending_cmcv (P : Proc) (v : Nat) : (P.clearPending v).cmcv = P.cmcv := by
  unfold Proc.clearPending; split <;> [rfl; (split <;> rfl)]
@[simp] theorem Proc.clearPending_lrr0 (P : Proc) (v : Nat) : (P.clearPending v).lrr0 = P.lrr0 := by
  unfold Proc.clearPending; split <;> [rfl; (split <;> rfl)]
@[simp] theorem Proc.clearPending_lrr1 (P : Proc) (v : Nat) : (P.clearPending v).lrr1 = P.lrr1 := by
  unfold Proc.clearPending; split <;> [rfl; (split <;> rfl)]
@[simp] theorem Proc.clearPending_psrI (P : Proc) (v : Nat) : (P.clearPending v).psrI = P.psrI := by
  unfold Proc.clearPending; split <;> [rfl; (split <;> rfl)]
@[simp] theorem Proc.clearPending_psrIc (P : Proc) (v : Nat) : (P.clearPending v).psrIc = P.psrIc := by
  unfold Proc.clearPending; split <;> [rfl; (split <;> rfl)]
@[simp] theorem Proc.clearPending_ipsr (P : Proc) (v : Nat) : (P.clearPending v).ipsr = P.ipsr := by
  unfold Proc.clearPending; split <;> [rfl; (split <;> rfl)]
@[simp] theorem Proc.clearPending_pmiP (P : Proc) (v : Nat) : (P.clearPending v).pmiP = P.pmiP := by
  unfold Proc.clearPending; split <;> [rfl; (split <;> rfl)]
@[simp] theorem Proc.clearPending_initP (P : Proc) (v : Nat) : (P.clearPending v).initP = P.initP := by
  unfold Proc.clearPending; split <;> [rfl; (split <;> rfl)]
@[simp] theorem Proc.clearPending_lint0 (P : Proc) (v : Nat) : (P.clearPending v).lint0 = P.lint0 := by
  unfold Proc.clearPending; split <;> [rfl; (split <;> rfl)]
@[simp] theorem Proc.clearPending_lint1 (P : Proc) (v : Nat) : (P.clearPending v).lint1 = P.lint1 := by
  unfold Proc.clearPending; split <;> [rfl; (split <;> rfl)]
@[simp] theorem Proc.clearPending_nmiPin (P : Proc) (v : Nat) : (P.clearPending v).nmiPin = P.nmiPin := by
  unfold Proc.clearPending; split <;> [rfl; (split <;> rfl)]
@[simp] theorem Proc.clearPending_pmiPin (P : Proc) (v : Nat) : (P.clearPending v).pmiPin = P.pmiPin := by
  unfold Proc.clearPending; split <;> [rfl; (split <;> rfl)]
@[simp] theorem Proc.clearPending_initPin (P : Proc) (v : Nat) : (P.clearPending v).initPin = P.initPin := by
  unfold Proc.clearPending; split <;> [rfl; (split <;> rfl)]
@[simp] theorem Proc.clearPending_xtp (P : Proc) (v : Nat) : (P.clearPending v).xtp = P.xtp := by
  unfold Proc.clearPending; split <;> [rfl; (split <;> rfl)]
@[simp] theorem Proc.clearPending_flow (P : Proc) (v : Nat) : (P.clearPending v).flow = P.flow := by
  unfold Proc.clearPending; split <;> [rfl; (split <;> rfl)]
@[simp] theorem Proc.clearPending_event (P : Proc) (v : Nat) : (P.clearPending v).event = P.event := by
  unfold Proc.clearPending; split <;> [rfl; (split <;> rfl)]
@[simp] theorem Proc.clearPending_result (P : Proc) (v : Nat) : (P.clearPending v).result = P.result := by
  unfold Proc.clearPending; split <;> [rfl; (split <;> rfl)]
@[simp] theorem Proc.setLint_bus (P : Proc) (k : LintPin) (x : Pin) : (P.setLint k x).bus = P.bus := by
  cases k <;> rfl
@[simp] theorem Proc.setLint_hasLint (P : Proc) (k : LintPin) (x : Pin) : (P.setLint k x).hasLint = P.hasLint := by
  cases k <;> rfl
@[simp] theorem Proc.setLint_lid (P : Proc) (k : LintPin) (x : Pin) : (P.setLint k x).lid = P.lid := by
  cases k <;> rfl
@[simp] theorem Proc.setLint_irr (P : Proc) (k : LintPin) (x : Pin) : (P.setLint k x).irr = P.irr := by
  cases k <;> rfl
@[simp] theorem Proc.setLint_nmiP (P : Proc) (k : LintPin) (x : Pin) : (P.setLint k x).nmiP = P.nmiP := by
  cases k <;> rfl
@[simp] theorem Proc.setLint_extP (P : Proc) (k : LintPin) (x : Pin) : (P.setLint k x).extP = P.extP := by
  cases k <;> rfl
@[simp] theorem Proc.setLint_insvc (P : Proc) (k : LintPin) (x : Pin) : (P.setLint k x).insvc = P.insvc := by
  cases k <;> rfl
@[simp] theorem Proc.setLint_eoiq (P : Proc) (k : LintPin) (x : Pin) : (P.setLint k x).eoiq = P.eoiq := by
  cases k <;> rfl
@[simp] theorem Proc.setLint_tpr (P : Proc) (k : LintPin) (x : Pin) : (P.setLint k x).tpr = P.tpr := by
  cases k <;> rfl
@[simp] theorem Proc.setLint_itv (P : Proc) (k : LintPin) (x : Pin) : (P.setLint k x).itv = P.itv := by
  cases k <;> rfl
@[simp] theorem Proc.setLint_pmv (P : Proc) (k : LintPin) (x : Pin) : (P.setLint k x).pmv = P.pmv := by
  cases k <;> rfl
@[simp] theorem Proc.setLint_cmcv (P : Proc) (k : LintPin) (x : Pin) : (P.setLint k x).cmcv = P.cmcv := by
  cases k <;> rfl
@[simp] theorem Proc.setLint_lrr0 (P : Proc) (k : LintPin) (x : Pin) : (P.setLint k x).lrr0 = P.lrr0 := by
  cases k <;> rfl
@[simp] theorem Proc.setLint_lrr1 (P : Proc) (k : LintPin) (x : Pin) : (P.setLint k x).lrr1 = P.lrr1 := by
  cases k <;> rfl
@[simp] theorem Proc.setLint_psrI (P : Proc) (k : LintPin) (x : Pin) : (P.setLint k x).psrI = P.psrI := by
  cases k <;> rfl
@[simp] theorem Proc.setLint_psrIc (P : Proc) (k : LintPin) (x : Pin) : (P.setLint k x).psrIc = P.psrIc := by
  cases k <;> rfl
@[simp] theorem Proc.setLint_ipsr (P : Proc) (k : LintPin) (x : Pin) : (P.setLint k x).ipsr = P.ipsr := by
  cases k <;> rfl
@[simp] theorem Proc.setLint_pmiP (P : Proc) (k : LintPin) (x : Pin) : (P.setLint k x).pmiP = P.pmiP := by
  cases k <;> rfl
@[simp] theorem Proc.setLint_initP (P : Proc) (k : LintPin) (x : Pin) : (P.setLint k x).initP = P.initP := by
  cases k <;> rfl
@[simp] theorem Proc.setLint_nmiPin (P : Proc) (k : LintPin) (x : Pin) : (P.setLint k x).nmiPin = P.nmiPin := by
  cases k <;> rfl
@[simp] theorem Proc.setLint_pmiPin (P : Proc) (k : LintPin) (x : Pin) : (P.setLint k x).pmiPin = P.pmiPin := by
  cases k <;> rfl
@[simp] theorem Proc.setLint_initPin (P : Proc) (k : LintPin) (x : Pin) : (P.setLint k x).initPin = P.initPin := by
  cases k <;> rfl
@[simp] theorem Proc.setLint_xtp (P : Proc) (k : LintPin) (x : Pin) : (P.setLint k x).xtp = P.xtp := by
  cases k <;> rfl
@[simp] theorem Proc.setLint_flow (P : Proc) (k : LintPin) (x : Pin) : (P.setLint k x).flow = P.flow := by
  cases k <;> rfl
@[simp] theorem Proc.setLint_event (P : Proc) (k : LintPin) (x : Pin) : (P.setLint k x).event = P.event := by
  cases k <;> rfl
@[simp] theorem Proc.setLint_result (P : Proc) (k : LintPin) (x : Pin) : (P.setLint k x).result = P.result := by
  cases k <;> rfl

/-! ### Entries and units -/

@[simp] theorem Entry.sampled_vector (E : Entry) : (E.sampled).vector = E.vector := rfl
@[simp] theorem Entry.sampled_dm (E : Entry) : (E.sampled).dm = E.dm := rfl
@[simp] theorem Entry.sampled_s (E : Entry) : (E.sampled).s = E.s := rfl
@[simp] theorem Entry.sampled_p (E : Entry) : (E.sampled).p = E.p := rfl
@[simp] theorem Entry.sampled_t (E : Entry) : (E.sampled).t = E.t := rfl
@[simp] theorem Entry.sampled_m (E : Entry) : (E.sampled).m = E.m := rfl
@[simp] theorem Entry.sampled_id (E : Entry) : (E.sampled).id = E.id := rfl
@[simp] theorem Entry.sampled_eid (E : Entry) : (E.sampled).eid = E.eid := rfl
@[simp] theorem Entry.sampled_await (E : Entry) : (E.sampled).await = E.await := rfl
@[simp] theorem Entry.sampled_pin (E : Entry) : (E.sampled).pin = { E.pin with prev := E.pin.level } := rfl
@[simp] theorem Entry.sent_vector (E : Entry) : (E.sent).vector = E.vector := rfl
@[simp] theorem Entry.sent_dm (E : Entry) : (E.sent).dm = E.dm := rfl
@[simp] theorem Entry.sent_s (E : Entry) : (E.sent).s = false := rfl
@[simp] theorem Entry.sent_p (E : Entry) : (E.sent).p = E.p := rfl
@[simp] theorem Entry.sent_t (E : Entry) : (E.sent).t = E.t := rfl
@[simp] theorem Entry.sent_m (E : Entry) : (E.sent).m = E.m := rfl
@[simp] theorem Entry.sent_id (E : Entry) : (E.sent).id = E.id := rfl
@[simp] theorem Entry.sent_eid (E : Entry) : (E.sent).eid = E.eid := rfl
@[simp] theorem Entry.sent_await (E : Entry) : (E.sent).await = if E.teff then true else E.await := rfl
@[simp] theorem Entry.sent_pin (E : Entry) : (E.sent).pin = E.pin := rfl
@[simp] theorem Entry.withLo_vector (E : Entry) (w : Word32) : (E.withLo w).vector = w.extractLsb' 0 8 := rfl
@[simp] theorem Entry.withLo_dm (E : Entry) (w : Word32) : (E.withLo w).dm = w.extractLsb' 8 3 := rfl
@[simp] theorem Entry.withLo_s (E : Entry) (w : Word32) : (E.withLo w).s = E.s := rfl
@[simp] theorem Entry.withLo_p (E : Entry) (w : Word32) : (E.withLo w).p = w.getLsbD 13 := rfl
@[simp] theorem Entry.withLo_t (E : Entry) (w : Word32) : (E.withLo w).t = w.getLsbD 15 := rfl
@[simp] theorem Entry.withLo_m (E : Entry) (w : Word32) : (E.withLo w).m = w.getLsbD 16 := rfl
@[simp] theorem Entry.withLo_id (E : Entry) (w : Word32) : (E.withLo w).id = E.id := rfl
@[simp] theorem Entry.withLo_eid (E : Entry) (w : Word32) : (E.withLo w).eid = E.eid := rfl
@[simp] theorem Entry.withLo_await (E : Entry) (w : Word32) : (E.withLo w).await = E.await := rfl
@[simp] theorem Entry.withLo_pin (E : Entry) (w : Word32) : (E.withLo w).pin = E.pin := rfl
@[simp] theorem Entry.withHi_vector (E : Entry) (w : Word32) : (E.withHi w).vector = E.vector := rfl
@[simp] theorem Entry.withHi_dm (E : Entry) (w : Word32) : (E.withHi w).dm = E.dm := rfl
@[simp] theorem Entry.withHi_s (E : Entry) (w : Word32) : (E.withHi w).s = E.s := rfl
@[simp] theorem Entry.withHi_p (E : Entry) (w : Word32) : (E.withHi w).p = E.p := rfl
@[simp] theorem Entry.withHi_t (E : Entry) (w : Word32) : (E.withHi w).t = E.t := rfl
@[simp] theorem Entry.withHi_m (E : Entry) (w : Word32) : (E.withHi w).m = E.m := rfl
@[simp] theorem Entry.withHi_id (E : Entry) (w : Word32) : (E.withHi w).id = w.extractLsb' 24 8 := rfl
@[simp] theorem Entry.withHi_eid (E : Entry) (w : Word32) : (E.withHi w).eid = w.extractLsb' 16 8 := rfl
@[simp] theorem Entry.withHi_await (E : Entry) (w : Word32) : (E.withHi w).await = E.await := rfl
@[simp] theorem Entry.withHi_pin (E : Entry) (w : Word32) : (E.withHi w).pin = E.pin := rfl
@[simp] theorem IoUnit.setEntry_base (U : IoUnit) (n : Nat) (E : Entry) :
    (U.setEntry n E).base = U.base := rfl
@[simp] theorem IoUnit.setEntry_version (U : IoUnit) (n : Nat) (E : Entry) :
    (U.setEntry n E).version = U.version := rfl
@[simp] theorem IoUnit.setEntry_hasIrqAssert (U : IoUnit) (n : Nat) (E : Entry) :
    (U.setEntry n E).hasIrqAssert = U.hasIrqAssert := rfl
@[simp] theorem IoUnit.setEntry_hasIoEoi (U : IoUnit) (n : Nat) (E : Entry) :
    (U.setEntry n E).hasIoEoi = U.hasIoEoi := rfl
@[simp] theorem IoUnit.setEntry_sel (U : IoUnit) (n : Nat) (E : Entry) :
    (U.setEntry n E).sel = U.sel := rfl
@[simp] theorem IoUnit.setEntry_entries (U : IoUnit) (n : Nat) (E : Entry) :
    (U.setEntry n E).entries = U.entries.set n E := rfl
@[simp] theorem Ser.write_arch (α : Type) (x : Ser α) (v : α) : (x.write v).arch = v := rfl
@[simp] theorem Ser.write_eff (α : Type) (x : Ser α) (v : α) : (x.write v).eff = x.eff := rfl
@[simp] theorem Ser.settled_arch (α : Type) (x : Ser α) : (x.settled).arch = x.arch := rfl
@[simp] theorem Ser.settled_eff (α : Type) (x : Ser α) : (x.settled).eff = x.arch := rfl
@[simp] theorem Ser.same_arch (α : Type) (v : α) : (Ser.same v).arch = v := rfl
@[simp] theorem Ser.same_eff (α : Type) (v : α) : (Ser.same v).eff = v := rfl

end Sys2Proof.Machine
end

