-- ==== Sys2Proof/Laws/Ops.lean ====
section
/-! SUPPORT. One lemma for each shared operation of Machine/Ops.lean: all it can do, if it answers a
next state; and what each of who-acts operations does when the agent is there. -/

namespace Sys2Proof.Machine

/-! ### Who acts -/

theorem onProc_next {p : Nat} {s s' : State} {k : Proc → Res} (h : onProc p s k = .next s') :
    ∃ P, s.procs[p]? = some P ∧ k P = .next s' := by
  unfold onProc at h
  split at h
  · cases h
  · exact ⟨_, ‹_›, h⟩

theorem onProc_some {p : Nat} {s : State} {P : Proc} (k : Proc → Res) (h : s.procs[p]? = some P) :
    onProc p s k = k P := by
  simp [onProc, h]

theorem software_next {p : Nat} {s s' : State} {k : Proc → Res} (h : software p s k = .next s') :
    ∃ P, s.procs[p]? = some P ∧ P.flow = .running ∧ k P = .next s' := by
  obtain ⟨P, hP, h⟩ := onProc_next h
  split at h
  · exact ⟨P, hP, ‹_›, h⟩
  · cases h

theorem software_some {p : Nat} {s : State} {P : Proc} (k : Proc → Res) (h : s.procs[p]? = some P)
    (hf : P.flow = .running) : software p s k = k P := by
  rw [software, onProc_some _ h, if_pos hf]

theorem software_ended {p : Nat} {s : State} {P : Proc} (k : Proc → Res) (h : s.procs[p]? = some P)
    (hf : P.flow ≠ .running) : software p s k = .fault (.flowEnded p) := by
  rw [software, onProc_some _ h, if_neg hf]

theorem onUnit_next {p u : Nat} {s s' : State} {k : Proc → IoUnit → Res}
    (h : onUnit p u s k = .next s') :
    ∃ P U, s.procs[p]? = some P ∧ P.flow = .running ∧ s.units[u]? = some U ∧ k P U = .next s' := by
  obtain ⟨P, hP, hf, h⟩ := software_next h
  split at h
  · cases h
  · exact ⟨P, _, hP, hf, ‹_›, h⟩

theorem onUnit_some {p u : Nat} {s : State} {P : Proc} {U : IoUnit} (k : Proc → IoUnit → Res)
    (h : s.procs[p]? = some P) (hf : P.flow = .running) (hU : s.units[u]? = some U) :
    onUnit p u s k = k P U := by
  rw [onUnit, software_some _ h hf]
  simp [hU]

theorem onEntry_next {u n : Nat} {s s' : State} {k : IoUnit → Entry → Res}
    (h : onEntry u n s k = .next s') :
    ∃ U E, s.units[u]? = some U ∧ U.entries[n]? = some E ∧ k U E = .next s' := by
  unfold onEntry at h
  split at h
  · cases h
  · split at h
    · cases h
    · exact ⟨_, _, ‹_›, ‹_›, h⟩

theorem onEntry_some {u n : Nat} {s : State} {U : IoUnit} {E : Entry} (k : IoUnit → Entry → Res)
    (hU : s.units[u]? = some U) (hE : U.entries[n]? = some E) : onEntry u n s k = k U E := by
  simp [onEntry, hU, hE]

theorem onWindow_next {p u x : Nat} {s s' : State} {k : Proc → IoUnit → Res}
    (h : onWindow p u x s k = .next s') :
    ∃ P U, s.procs[p]? = some P ∧ P.flow = .running ∧ s.units[u]? = some U ∧ U.sel.toNat = x ∧
      k P U = .next s' := by
  obtain ⟨P, U, hP, hf, hU, h⟩ := onUnit_next h
  split at h
  · exact ⟨P, U, hP, hf, hU, ‹_›, h⟩
  · cases h

theorem onWindow_some {p u x : Nat} {s : State} {P : Proc} {U : IoUnit} (k : Proc → IoUnit → Res)
    (h : s.procs[p]? = some P) (hf : P.flow = .running) (hU : s.units[u]? = some U)
    (hx : U.sel.toNat = x) : onWindow p u x s k = k P U := by
  rw [onWindow, onUnit_some _ h hf hU, if_pos hx]

theorem onWindowEntry_next {p u x n : Nat} {s s' : State} {k : Proc → IoUnit → Entry → Res}
    (h : onWindowEntry p u x n s k = .next s') :
    ∃ P U E, s.procs[p]? = some P ∧ P.flow = .running ∧ s.units[u]? = some U ∧ U.sel.toNat = x ∧
      U.entries[n]? = some E ∧ k P U E = .next s' := by
  obtain ⟨P, U, hP, hf, hU, hx, h⟩ := onWindow_next h
  split at h
  · cases h
  · exact ⟨P, U, _, hP, hf, hU, hx, ‹_›, h⟩

theorem onWindowEntry_some {p u x n : Nat} {s : State} {P : Proc} {U : IoUnit} {E : Entry}
    (k : Proc → IoUnit → Entry → Res) (h : s.procs[p]? = some P) (hf : P.flow = .running)
    (hU : s.units[u]? = some U) (hx : U.sel.toNat = x) (hE : U.entries[n]? = some E) :
    onWindowEntry p u x n s k = k P U E := by
  rw [onWindowEntry, onWindow_some _ h hf hU hx]
  simp [hE]

/-! ### Control registers -/

theorem readReg_next {p : Nat} {s s' : State} {f : Proc → Word64} (h : readReg p s f = .next s') :
    ∃ P, s.procs[p]? = some P ∧ P.flow = .running ∧ s' = s.setProc p (P.deliver (f P)) := by
  obtain ⟨P, hP, hf, h⟩ := software_next h
  cases h
  exact ⟨P, hP, hf, rfl⟩

theorem readRegDraw_next {p : Nat} {s s' : State} {f : Proc → Word64 → Word64}
    (h : readRegDraw p s f = .next s') :
    ∃ P, s.procs[p]? = some P ∧ P.flow = .running ∧
      s' = (s.setProc p (P.deliver (f P (Config.freeWord s.draws)))).tick := by
  obtain ⟨P, hP, hf, h⟩ := software_next h
  cases h
  exact ⟨P, hP, hf, rfl⟩

theorem writeReg_next {p : Nat} {s s' : State} {w r : Word64} {f : Proc → Proc}
    (h : writeReg p s w r f = .next s') :
    ∃ P, s.procs[p]? = some P ∧ P.flow = .running ∧
      ((w &&& r = 0 ∧ s' = s.setProc p (f P)) ∨
        (w &&& r ≠ 0 ∧ s' = s.setProc p { P with flow := .faulted .generalException })) := by
  obtain ⟨P, hP, hf, h⟩ := software_next h
  refine ⟨P, hP, hf, ?_⟩
  split at h
  · cases h; exact .inl ⟨‹_›, rfl⟩
  · cases h; exact .inr ⟨‹_›, rfl⟩

theorem writeReadOnly_next {p : Nat} {s s' : State} (h : writeReadOnly p s = .next s') :
    ∃ P, s.procs[p]? = some P ∧ P.flow = .running ∧
      s' = s.setProc p { P with flow := .faulted .illegalOperation } := by
  obtain ⟨P, hP, hf, h⟩ := software_next h
  cases h
  exact ⟨P, hP, hf, rfl⟩

theorem writeLrr_next {p : Nat} {s s' : State} {w : Word64} {f : Proc → Lrr → Proc}
    (h : writeLrr p s w f = .next s') :
    ∃ P, s.procs[p]? = some P ∧ P.flow = .running ∧ w &&& lrrUnlabelled = 0 ∧
      dmUndefined (unpackLrr w).dm = false ∧ s' = s.setProc p (f P (unpackLrr w)) := by
  obtain ⟨P, hP, hf, h⟩ := software_next h
  refine ⟨P, hP, hf, ?_⟩
  split at h
  · cases h
  · split at h
    · cases h
    · cases h
      exact ⟨by simp_all, by simp_all, rfl⟩

/-! ### EOI and serialization -/

theorem eoiEffect_some {P P' : Proc} (h : P.eoiEffect = some P') :
    ∃ v, P.topInsvc = some v ∧ P' = { P with insvc := writeBit P.insvc v false } := by
  unfold Proc.eoiEffect at h
  split at h
  · cases h
  · cases h; exact ⟨_, ‹_›, rfl⟩

theorem eoiEffects_some {k : Nat} {P P' : Proc} (h : Proc.eoiEffects k P = some P') :
    ∃ x, P' = { P with insvc := x } ∧ ∀ v, x.getLsbD v = true → P.insvc.getLsbD v = true := by
  induction k generalizing P with
  | zero => cases h; exact ⟨_, rfl, fun _ h => h⟩
  | succ k ih =>
    simp only [Proc.eoiEffects] at h
    split at h
    · cases h
    · rename_i Q hQ
      obtain ⟨v, -, rfl⟩ := eoiEffect_some hQ
      obtain ⟨x, rfl, hx⟩ := ih h
      refine ⟨x, rfl, fun w hw => ?_⟩
      have := hx w hw
      rw [getLsbD_writeBit] at this
      split at this
      · simp at this
      · exact this

theorem serialize_some {P P' : Proc} (h : P.serialize = some P') :
    ∃ x, P' = { P.settleAll with insvc := x, eoiq := 0 } ∧
      ∀ v, x.getLsbD v = true → P.insvc.getLsbD v = true := by
  unfold Proc.serialize at h
  split at h
  · cases h
  · rename_i Q hQ
    obtain ⟨x, rfl, hx⟩ := eoiEffects_some hQ
    cases h
    exact ⟨x, rfl, hx⟩

/-- An IVR read: a spurious one, or the vector that is highest moves from pending to in service. -/
theorem readIvr_cases (P : Proc) :
    (P.hpu = none ∧ P.readIvr = P.deliver 0x0F) ∨
      ∃ v, P.hpu = some v ∧
        P.readIvr = ((P.clearPending v).markInService v).deliver (BitVec.ofNat 64 v) := by
  unfold Proc.readIvr
  cases P.hpu with
  | none => exact .inl ⟨rfl, rfl⟩
  | some v => exact .inr ⟨v, rfl, rfl⟩

theorem hpu_some {P : Proc} {v : Nat} (h : P.hpu = some v) :
    reportable v ∧ P.pending v = true ∧ P.unmasked v = true ∧
      ∀ w, reportable w → P.pending w = true → P.unmasked w = true → prio w ≤ prio v := by
  obtain ⟨h1, h2, h3⟩ := topVector_eq_some h
  simp only [Bool.and_eq_true] at h2
  exact ⟨h1, h2.1, h2.2, fun w hr hp hu => h3 w hr (by simp [hp, hu])⟩

/-! ### I/O xAPIC entries -/

theorem fire_ok {E E' : Entry} (h : E.fire = .ok E') :
    E.fireCheck = none ∧ E' = { E with s := true } := by
  unfold Entry.fire at h
  split at h
  · cases h
  · cases h; exact ⟨‹_›, rfl⟩

theorem unmask_ok {E E' : Entry} {b : Bool} (h : E.unmask b = .ok E') :
    E' = E ∨ (E.teff = false ∧ E.active = true ∧ E.fireCheck = none ∧ E' = { E with s := E.s || b }) := by
  unfold Entry.unmask at h
  split at h
  · rename_i hc
    split at h
    · cases h
    · cases h; exact .inr ⟨hc.1, hc.2, ‹_›, rfl⟩
  · cases h; exact .inl rfl

/-- A store to the low half writes the fields of the word; only the delivery status is beside them. -/
theorem storeLo_ok {E E' : Entry} {w : Word32} {b : Bool} (h : E.storeLo w b = .ok E') :
    ∃ x, E' = { E.withLo w with s := x } := by
  simp only [Entry.storeLo] at h
  split at h
  · cases h
    split
    · exact ⟨b, rfl⟩
    · exact ⟨E.s, rfl⟩
  · split at h
    · rcases unmask_ok h with rfl | ⟨-, -, -, rfl⟩
      · exact ⟨E.s, rfl⟩
      · exact ⟨_, rfl⟩
    · cases h; exact ⟨E.s, rfl⟩

theorem rteLoCheck_none {w : Word32} (h : rteLoCheck w = none) :
    w.extractLsb' 17 15 = 0 ∧ w.getLsbD 14 = false ∧ w.getLsbD 11 = false ∧
      dmUndefinedRte (w.extractLsb' 8 3) = false := by
  unfold rteLoCheck at h
  split at h
  · cases h
  · split at h
    · cases h
    · split at h
      · cases h
      · simp_all

/-- A sample changes nothing of an entry but its delivery status. -/
theorem sample_ok {E E' : Entry} {b : Bool} (h : E.sample b = .ok E') : ∃ x, E' = { E with s := x } := by
  unfold Entry.sample at h
  split at h
  · cases h; exact ⟨E.s, rfl⟩
  · split at h
    · split at h
      · exact ⟨true, (fire_ok h).2⟩
      · cases h; exact ⟨E.s, rfl⟩
    · split at h
      · exact ⟨true, (fire_ok h).2⟩
      · split at h
        · cases h; exact ⟨b, rfl⟩
        · cases h; exact ⟨E.s, rfl⟩

/-! ### Messages -/

theorem pendInt_ok {v : Byte} {P P' : Proc} (h : P.pendInt v = .ok P') :
    16 ≤ v.toNat ∧ P' = { P with irr := writeBit P.irr v.toNat true } := by
  unfold Proc.pendInt at h
  split at h
  · cases h
  · cases h; exact ⟨by omega, rfl⟩

theorem pendPmi_ok {v : Byte} {P P' : Proc} (h : P.pendPmi v = .ok P') :
    v.toNat ≤ 15 ∧ P' = { P with pmiP := writeBit P.pmiP v.toNat true } := by
  unfold Proc.pendPmi at h
  split at h
  · cases h
  · cases h; exact ⟨by omega, rfl⟩

theorem deliverLocal_ok {dm : DMode} {v : Byte} {P P' : Proc} (h : P.deliverLocal dm v = .ok P') :
    (dm = DMode.int ∧ 16 ≤ v.toNat ∧ P' = { P with irr := writeBit P.irr v.toNat true }) ∨
      (dm = DMode.pmi ∧ v.toNat ≤ 15 ∧ P' = { P with pmiP := writeBit P.pmiP v.toNat true }) ∨
      (dm = DMode.nmi ∧ P' = P.pendNmi) ∨ (dm = DMode.init ∧ P' = P.pendInit) ∨
      (dm = DMode.extInt ∧ P' = P.pendExtInt) := by
  unfold Proc.deliverLocal at h
  split at h
  · exact .inl ⟨‹_›, pendInt_ok h⟩
  · split at h
    · exact .inr (.inl ⟨‹_›, pendPmi_ok h⟩)
    · split at h
      · cases h; exact .inr (.inr (.inl ⟨‹_›, rfl⟩))
      · split at h
        · cases h; exact .inr (.inr (.inr (.inl ⟨‹_›, rfl⟩)))
        · split at h
          · cases h; exact .inr (.inr (.inr (.inr ⟨‹_›, rfl⟩)))
          · cases h

theorem unlessDuplicate_next {s s' : State} {m : Msg} {r : Res} (h : unlessDuplicate s m r = .next s') :
    (s.holders m).length < 2 ∧ r = .next s' := by
  unfold unlessDuplicate at h
  split at h
  · cases h
  · exact ⟨by omega, h⟩

theorem unlessDuplicate_unique {s : State} {m : Msg} (r : Res) (h : (s.holders m).length < 2) :
    unlessDuplicate s m r = r := if_neg (by omega)

/-- No message in flight has two holders (R314). -/
theorem duplicateHeld_eq_false {s : State} : s.duplicateHeld = false ↔
    (∀ m ∈ s.ioBus, (s.holders m).length < 2) ∧ ∀ x ∈ s.sysBus, (s.holders x.2).length < 2 := by
  simp only [State.duplicateHeld, List.any_eq_false, List.mem_append, List.mem_map, decide_eq_true_eq,
    Nat.not_le]
  constructor
  · intro h
    exact ⟨fun m hm => h m (.inl hm), fun x hx => h x.2 (.inr ⟨x, hx, rfl⟩)⟩
  · rintro ⟨h1, h2⟩ m (hm | ⟨x, hx, rfl⟩)
    · exact h1 m hm
    · exact h2 x hx

/-- A receipt: the message was on the processor's bus, without the hint, for it alone; it is off the bus
and its effect is on that processor. -/
theorem receiveMsg_next {q : Nat} {m : Msg} {s s' : State} {effect : Proc → Except Refusal Proc}
    (h : receiveMsg q m s effect = .next s') :
    ∃ Q Q', s.procs[q]? = some Q ∧ (Q.bus, m) ∈ s.sysBus ∧ m.h = false ∧ Q.matches m = true ∧
      (s.holders m).length < 2 ∧ effect Q = .ok Q' ∧
      s' = { s.setProc q Q' with sysBus := s.sysBus.erase (Q.bus, m) } := by
  obtain ⟨Q, hQ, h⟩ := onProc_next h
  split at h
  · rename_i hc
    obtain ⟨hn, h⟩ := unlessDuplicate_next h
    split at h
    · cases h
    · cases h
      exact ⟨Q, _, hQ, hc.1, hc.2.1, hc.2.2, hn, ‹_›, rfl⟩
  · cases h

/-- The destination bus is that of a processor of the platform, or 0 if there is none. -/
theorem destBus_ok {s : State} {m : Msg} {b : Nat} (h : destBus s m = .ok b) :
    (∃ P, s.holders m = [P] ∧ b = P.bus) ∨
      (s.holders m = [] ∧ ((∃ P ∈ s.procs, b = P.bus) ∨ b = 0)) := by
  unfold destBus at h
  split at h
  · cases h; exact .inl ⟨_, ‹_›, rfl⟩
  · refine .inr ⟨‹_›, ?_⟩
    split at h
    · cases h
      exact .inl ⟨_, List.mem_of_getElem? ‹_›, rfl⟩
    · cases h; exact .inr rfl
  · cases h

/-- Redirection changes the destination and the hint, nothing else (R306). -/
theorem redirected_fields (s : State) (l : List Proc) (m : Msg) :
    (redirected s l m).h = false ∧ (redirected s l m).dm = m.dm ∧
      (redirected s l m).vector = m.vector ∧ (redirected s l m).t = m.t := by
  unfold redirected
  split
  · simp
  · split <;> simp

/-- Redirection leaves the destination alone or takes that of a target (R305). -/
theorem redirected_cases (s : State) (l : List Proc) (m : Msg) :
    redirected s l m = { m with h := false } ∨
      ∃ Q ∈ l, redirected s l m = { m with id := Q.lid.eff.id, eid := Q.lid.eff.eid, h := false } := by
  unfold redirected
  split
  · exact .inl rfl
  · rename_i Q hQ
    split
    · exact .inr ⟨Q, List.mem_of_getElem? hQ, rfl⟩
    · exact .inl rfl

/-- Without a target the message passes through. -/
@[simp] theorem redirected_nil (s : State) (m : Msg) : redirected s [] m = { m with h := false } := by
  simp [redirected]

/-- A forwarded message is on the bus of its destination, perhaps redirected to a target there; two
draws were made and nothing else changed. -/
theorem forward_next {s s' : State} {m : Msg} {targets : Nat → List Proc}
    (h : forward s m targets = .next s') :
    ∃ b, destBus s m = .ok b ∧ s' = { s with
      sysBus := s.sysBus ++ [(b, redirected s.tick (targets b) m)], draws := s.draws + 2 } := by
  unfold forward at h
  split at h
  · cases h
  · cases h
    exact ⟨_, ‹_›, rfl⟩

theorem mem_redirectTargets {s : State} {b : Nat} {P : Proc} (h : P ∈ redirectTargets s b) :
    P ∈ s.procs ∧ P.bus = b ∧ Config.xtpEnabled P.xtp = true ∧
      ∀ Q ∈ s.procs, Q.bus = b → Config.xtpEnabled Q.xtp = true →
        Config.xtpPrio P.xtp ≤ Config.xtpPrio Q.xtp := by
  unfold redirectTargets at h
  simp only [List.mem_filter, Bool.and_eq_true, beq_iff_eq, List.all_eq_true, decide_eq_true_eq] at h
  exact ⟨h.1.1, h.1.2.1, h.1.2.2, fun Q hQ hb hx => h.2 Q ⟨hQ, hb, hx⟩⟩

/-- A message that the bridge takes waited for no data; it is off the I/O bus and forwarded. -/
theorem bridge_next {m : Msg} {s s' : State} (h : bridge m s = .next s') :
    m ∈ s.ioBus ∧ s.waitsForData (s.ioBus.idxOf m) = false ∧
      ∃ t : Nat → List Proc, forward { s with
        ioBus := s.ioBus.erase m, stores := s.stores.map PendingStore.passed } m t = .next s' := by
  unfold bridge at h
  split at h
  · rename_i hm
    exact ⟨hm.1, hm.2, _, h⟩
  · cases h

/-! ### Device addresses and memory -/

theorem deviceByte_eq_false {s : State} {a : Nat} : s.deviceByte a = false ↔
    (a < s.plat.pibBase.toNat ∨ s.plat.pibBase.toNat + 0x200000 ≤ a) ∧
      ∀ U ∈ s.units, U.claims a = false := by
  simp only [State.deviceByte, Bool.or_eq_false_iff, Bool.and_eq_false_iff, decide_eq_false_iff_not,
    Nat.not_le, Nat.not_lt, List.any_eq_false, Bool.not_eq_true]

theorem deviceBytes_eq_false {s : State} {a n : Nat} :
    s.deviceBytes a n = false ↔ ∀ k, k < n → s.deviceByte (a + k) = false := by
  simp only [State.deviceBytes, List.any_eq_false, List.mem_range, Bool.not_eq_true]

/-- A device's data write: the address exists, the form is one of memory's, no device claims a byte, and
the write is on its way behind the messages of the I/O bus. -/
theorem deviceData_next {a n : Nat} {d : Word64} {s s' : State} (h : deviceData a n d s = .next s') :
    a < 2 ^ 63 ∧ memoryForm a n = true ∧ s.deviceBytes a n = false ∧
      s' = { s with stores := s.stores ++ [⟨a, n, d, some s.ioBus.length⟩] } := by
  unfold deviceData at h
  split at h
  · cases h
  · split at h
    · cases h
    · split at h
      · cases h
      · cases h
        exact ⟨by omega, by simp_all, by simp_all, rfl⟩

/-- A store that lands: it is a pending one, its bytes are in memory and it is pending no more. -/
theorem land_next {k : Nat} {s s' : State} (h : land k s = .next s') :
    ∃ x, s.stores[k]? = some x ∧
      s' = { s with mem := s.mem.write x.addr x.width x.data, stores := s.stores.eraseIdx k } := by
  unfold land at h
  split at h
  · cases h
  · cases h
    exact ⟨_, ‹_›, rfl⟩

/-- A load that is performed: it is a pending one, and pending no more; its processor is delivered a value
and nothing else changes. -/
theorem perform_next {k : Nat} {l : List (Option Nat)} {s s' : State} (h : perform k l s = .next s') :
    ∃ x P v, s.loads[k]? = some x ∧ s.procs[x.p]? = some P ∧
      readWith (fun b => s.seenByte b (l[b - x.addr]?.getD none)) x.addr x.width = .ok v ∧
      s' = { s.setProc x.p (P.deliver v) with loads := s.loads.eraseIdx k } := by
  unfold perform at h
  split at h
  · cases h
  · obtain ⟨P, hP, h⟩ := onProc_next h
    split at h
    · cases h
    · cases h
      exact ⟨_, P, _, ‹_›, hP, ‹_›, rfl⟩

end Sys2Proof.Machine
end

