-- ==== Sys2Proof/Laws/PerInstr.lean ====
section
/-! SUPPORT. The family EncodeShape: a well-formed operation of any platform is spelled as six words, with a
format of R145 and numbers that fit, one lemma for each constructor. -/

namespace Sys2Proof.Laws.EncodeShape

/-- The encoding is six words (log 1): a format number of the table, and a width, a processor and a
unit that fit 16 bits. -/
def Statement (i : Instr) : Prop :=
  ∀ c : Platform, i.wellFormedAt c = true →
    ∃ key datum fmt n p u, encodeAt c i = opWords fmt key datum n p u ∧ (1 ≤ fmt ∧ fmt ≤ 14) ∧
      n < 65536 ∧ p < 65536 ∧ u < 65536

theorem index_lt {p : Nat} (h : indexOk p = true) : p < 65536 := of_decide_eq_true h

theorem width_lt {n : Nat} (h : widthOk n = true) : n < 65536 := of_decide_eq_true h

theorem left {a b : Bool} (h : (a && b) = true) : a = true := (Bool.and_eq_true_iff.1 h).1

theorem right {a b : Bool} (h : (a && b) = true) : b = true := (Bool.and_eq_true_iff.1 h).2

theorem le_of {a b : Nat} (h : Nat.ble a b = true) : a ≤ b := Nat.le_of_ble_eq_true h

theorem lt_of {a b : Nat} (h : Nat.ble (a + 1) b = true) : a < b := Nat.le_of_ble_eq_true h

theorem movFromLid (p : Nat) :
    Statement (.movFromLid p) := fun _ h =>
  ⟨_, _, _, _, _, _, rfl, ⟨le_of rfl, le_of rfl⟩, lt_of rfl,
    index_lt h, lt_of rfl⟩

theorem movToLid (p : Nat) (w : Word64) :
    Statement (.movToLid p w) := fun _ h =>
  ⟨_, _, _, _, _, _, rfl, ⟨le_of rfl, le_of rfl⟩, lt_of rfl,
    index_lt h, lt_of rfl⟩

theorem movFromIrr0 (p : Nat) :
    Statement (.movFromIrr0 p) := fun _ h =>
  ⟨_, _, _, _, _, _, rfl, ⟨le_of rfl, le_of rfl⟩, lt_of rfl,
    index_lt h, lt_of rfl⟩

theorem movFromIrr1 (p : Nat) :
    Statement (.movFromIrr1 p) := fun _ h =>
  ⟨_, _, _, _, _, _, rfl, ⟨le_of rfl, le_of rfl⟩, lt_of rfl,
    index_lt h, lt_of rfl⟩

theorem movFromIrr2 (p : Nat) :
    Statement (.movFromIrr2 p) := fun _ h =>
  ⟨_, _, _, _, _, _, rfl, ⟨le_of rfl, le_of rfl⟩, lt_of rfl,
    index_lt h, lt_of rfl⟩

theorem movFromIrr3 (p : Nat) :
    Statement (.movFromIrr3 p) := fun _ h =>
  ⟨_, _, _, _, _, _, rfl, ⟨le_of rfl, le_of rfl⟩, lt_of rfl,
    index_lt h, lt_of rfl⟩

theorem movToIrr0 (p : Nat) (w : Word64) :
    Statement (.movToIrr0 p w) := fun _ h =>
  ⟨_, _, _, _, _, _, rfl, ⟨le_of rfl, le_of rfl⟩, lt_of rfl,
    index_lt h, lt_of rfl⟩

theorem movToIrr1 (p : Nat) (w : Word64) :
    Statement (.movToIrr1 p w) := fun _ h =>
  ⟨_, _, _, _, _, _, rfl, ⟨le_of rfl, le_of rfl⟩, lt_of rfl,
    index_lt h, lt_of rfl⟩

theorem movToIrr2 (p : Nat) (w : Word64) :
    Statement (.movToIrr2 p w) := fun _ h =>
  ⟨_, _, _, _, _, _, rfl, ⟨le_of rfl, le_of rfl⟩, lt_of rfl,
    index_lt h, lt_of rfl⟩

theorem movToIrr3 (p : Nat) (w : Word64) :
    Statement (.movToIrr3 p w) := fun _ h =>
  ⟨_, _, _, _, _, _, rfl, ⟨le_of rfl, le_of rfl⟩, lt_of rfl,
    index_lt h, lt_of rfl⟩

theorem movFromIvr (p : Nat) :
    Statement (.movFromIvr p) := fun _ h =>
  ⟨_, _, _, _, _, _, rfl, ⟨le_of rfl, le_of rfl⟩, lt_of rfl,
    index_lt h, lt_of rfl⟩

theorem movToIvr (p : Nat) (w : Word64) :
    Statement (.movToIvr p w) := fun _ h =>
  ⟨_, _, _, _, _, _, rfl, ⟨le_of rfl, le_of rfl⟩, lt_of rfl,
    index_lt h, lt_of rfl⟩

theorem movToEoi (p : Nat) (w : Word64) :
    Statement (.movToEoi p w) := fun _ h =>
  ⟨_, _, _, _, _, _, rfl, ⟨le_of rfl, le_of rfl⟩, lt_of rfl,
    index_lt h, lt_of rfl⟩

theorem movFromEoi (p : Nat) :
    Statement (.movFromEoi p) := fun _ h =>
  ⟨_, _, _, _, _, _, rfl, ⟨le_of rfl, le_of rfl⟩, lt_of rfl,
    index_lt h, lt_of rfl⟩

theorem movFromTpr (p : Nat) :
    Statement (.movFromTpr p) := fun _ h =>
  ⟨_, _, _, _, _, _, rfl, ⟨le_of rfl, le_of rfl⟩, lt_of rfl,
    index_lt h, lt_of rfl⟩

theorem movToTpr (p : Nat) (w : Word64) :
    Statement (.movToTpr p w) := fun _ h =>
  ⟨_, _, _, _, _, _, rfl, ⟨le_of rfl, le_of rfl⟩, lt_of rfl,
    index_lt h, lt_of rfl⟩

theorem movFromItv (p : Nat) :
    Statement (.movFromItv p) := fun _ h =>
  ⟨_, _, _, _, _, _, rfl, ⟨le_of rfl, le_of rfl⟩, lt_of rfl,
    index_lt h, lt_of rfl⟩

theorem movToItv (p : Nat) (w : Word64) :
    Statement (.movToItv p w) := fun _ h =>
  ⟨_, _, _, _, _, _, rfl, ⟨le_of rfl, le_of rfl⟩, lt_of rfl,
    index_lt h, lt_of rfl⟩

theorem movFromPmv (p : Nat) :
    Statement (.movFromPmv p) := fun _ h =>
  ⟨_, _, _, _, _, _, rfl, ⟨le_of rfl, le_of rfl⟩, lt_of rfl,
    index_lt h, lt_of rfl⟩

theorem movToPmv (p : Nat) (w : Word64) :
    Statement (.movToPmv p w) := fun _ h =>
  ⟨_, _, _, _, _, _, rfl, ⟨le_of rfl, le_of rfl⟩, lt_of rfl,
    index_lt h, lt_of rfl⟩

theorem movFromCmcv (p : Nat) :
    Statement (.movFromCmcv p) := fun _ h =>
  ⟨_, _, _, _, _, _, rfl, ⟨le_of rfl, le_of rfl⟩, lt_of rfl,
    index_lt h, lt_of rfl⟩

theorem movToCmcv (p : Nat) (w : Word64) :
    Statement (.movToCmcv p w) := fun _ h =>
  ⟨_, _, _, _, _, _, rfl, ⟨le_of rfl, le_of rfl⟩, lt_of rfl,
    index_lt h, lt_of rfl⟩

theorem movFromLrr0 (p : Nat) :
    Statement (.movFromLrr0 p) := fun _ h =>
  ⟨_, _, _, _, _, _, rfl, ⟨le_of rfl, le_of rfl⟩, lt_of rfl,
    index_lt h, lt_of rfl⟩

theorem movToLrr0 (p : Nat) (w : Word64) :
    Statement (.movToLrr0 p w) := fun _ h =>
  ⟨_, _, _, _, _, _, rfl, ⟨le_of rfl, le_of rfl⟩, lt_of rfl,
    index_lt h, lt_of rfl⟩

theorem movFromLrr1 (p : Nat) :
    Statement (.movFromLrr1 p) := fun _ h =>
  ⟨_, _, _, _, _, _, rfl, ⟨le_of rfl, le_of rfl⟩, lt_of rfl,
    index_lt h, lt_of rfl⟩

theorem movToLrr1 (p : Nat) (w : Word64) :
    Statement (.movToLrr1 p w) := fun _ h =>
  ⟨_, _, _, _, _, _, rfl, ⟨le_of rfl, le_of rfl⟩, lt_of rfl,
    index_lt h, lt_of rfl⟩

theorem srlzD (p : Nat) :
    Statement (.srlzD p) := fun _ h =>
  ⟨_, _, _, _, _, _, rfl, ⟨le_of rfl, le_of rfl⟩, lt_of rfl,
    index_lt h, lt_of rfl⟩

theorem ssmI (p : Nat) :
    Statement (.ssmI p) := fun _ h =>
  ⟨_, _, _, _, _, _, rfl, ⟨le_of rfl, le_of rfl⟩, lt_of rfl,
    index_lt h, lt_of rfl⟩

theorem rsmI (p : Nat) :
    Statement (.rsmI p) := fun _ h =>
  ⟨_, _, _, _, _, _, rfl, ⟨le_of rfl, le_of rfl⟩, lt_of rfl,
    index_lt h, lt_of rfl⟩

theorem ssmIc (p : Nat) :
    Statement (.ssmIc p) := fun _ h =>
  ⟨_, _, _, _, _, _, rfl, ⟨le_of rfl, le_of rfl⟩, lt_of rfl,
    index_lt h, lt_of rfl⟩

theorem rfi (p : Nat) :
    Statement (.rfi p) := fun _ h =>
  ⟨_, _, _, _, _, _, rfl, ⟨le_of rfl, le_of rfl⟩, lt_of rfl,
    index_lt h, lt_of rfl⟩

theorem ipiSt8 (p : Nat) (a : Word64) (d : Word64) :
    Statement (.ipiSt8 p a d) := fun _ h =>
  ⟨_, _, _, _, _, _, rfl, ⟨le_of rfl, le_of rfl⟩, lt_of rfl,
    index_lt (left (left h)), lt_of rfl⟩

theorem ipiStBad (p : Nat) (a : Word64) (n : Nat) (d : Word64) :
    Statement (.ipiStBad p a n d) := fun _ h =>
  ⟨_, _, _, _, _, _, rfl, ⟨le_of rfl, le_of rfl⟩, width_lt (right (left (left h))),
    index_lt (left (left (left h))), lt_of rfl⟩

theorem ipiLd (p : Nat) (a : Word64) (n : Nat) :
    Statement (.ipiLd p a n) := fun _ h =>
  ⟨_, _, _, _, _, _, rfl, ⟨le_of rfl, le_of rfl⟩, width_lt (right (left h)),
    index_lt (left (left h)), lt_of rfl⟩

theorem xtpSt1 (p : Nat) (a : Word64) (b : Byte) :
    Statement (.xtpSt1 p a b) := fun _ h =>
  ⟨_, _, _, _, _, _, rfl, ⟨le_of rfl, le_of rfl⟩, lt_of rfl,
    index_lt (left h), lt_of rfl⟩

theorem intaLd1 (p : Nat) (a : Word64) :
    Statement (.intaLd1 p a) := fun _ h =>
  ⟨_, _, _, _, _, _, rfl, ⟨le_of rfl, le_of rfl⟩, lt_of rfl,
    index_lt (left h), lt_of rfl⟩

theorem pibUndef (p : Nat) (a : Word64) (n : Nat) (store : Bool) (d : Word64) :
    Statement (.pibUndef p a n store d) := by
  intro _ h
  refine ⟨_, _, _, _, _, _, rfl, ?_, width_lt (right (left (left h))),
    index_lt (left (left (left h))), lt_of rfl⟩
  cases store
  · exact ⟨le_of rfl, le_of rfl⟩
  · exact ⟨le_of rfl, le_of rfl⟩

theorem ioxSelSt4 (p u : Nat) (w : Word32) :
    Statement (.ioxSelSt4 p u w) := fun _ h =>
  ⟨_, _, _, _, _, _, rfl, ⟨le_of rfl, le_of rfl⟩, lt_of rfl,
    index_lt (left h), index_lt (right h)⟩

theorem ioxSelLd4 (p u : Nat) :
    Statement (.ioxSelLd4 p u) := fun _ h =>
  ⟨_, _, _, _, _, _, rfl, ⟨le_of rfl, le_of rfl⟩, lt_of rfl,
    index_lt (left h), index_lt (right h)⟩

theorem ioxIrqaSt4 (p u : Nat) (w : Word32) :
    Statement (.ioxIrqaSt4 p u w) := fun _ h =>
  ⟨_, _, _, _, _, _, rfl, ⟨le_of rfl, le_of rfl⟩, lt_of rfl,
    index_lt (left h), index_lt (right h)⟩

theorem ioxEoiSt4 (p u : Nat) (w : Word32) :
    Statement (.ioxEoiSt4 p u w) := fun _ h =>
  ⟨_, _, _, _, _, _, rfl, ⟨le_of rfl, le_of rfl⟩, lt_of rfl,
    index_lt (left h), index_lt (right h)⟩

theorem ioxWinLd4Ver (p u : Nat) :
    Statement (.ioxWinLd4Ver p u) := fun _ h =>
  ⟨_, _, _, _, _, _, rfl, ⟨le_of rfl, le_of rfl⟩, lt_of rfl,
    index_lt (left h), index_lt (right h)⟩

theorem ioxWinSt4Ver (p u : Nat) (w : Word32) :
    Statement (.ioxWinSt4Ver p u w) := fun _ h =>
  ⟨_, _, _, _, _, _, rfl, ⟨le_of rfl, le_of rfl⟩, lt_of rfl,
    index_lt (left h), index_lt (right h)⟩

theorem ioxWinLd4Rtelo (p u n : Nat) :
    Statement (.ioxWinLd4Rtelo p u n) := fun _ h =>
  ⟨_, _, _, _, _, _, rfl, ⟨le_of rfl, le_of rfl⟩, lt_of rfl,
    index_lt (left (left h)), index_lt (right (left h))⟩

theorem ioxWinSt4Rtelo (p u n : Nat) (w : Word32) :
    Statement (.ioxWinSt4Rtelo p u n w) := fun _ h =>
  ⟨_, _, _, _, _, _, rfl, ⟨le_of rfl, le_of rfl⟩, lt_of rfl,
    index_lt (left (left h)), index_lt (right (left h))⟩

theorem ioxWinLd4Rtehi (p u n : Nat) :
    Statement (.ioxWinLd4Rtehi p u n) := fun _ h =>
  ⟨_, _, _, _, _, _, rfl, ⟨le_of rfl, le_of rfl⟩, lt_of rfl,
    index_lt (left (left h)), index_lt (right (left h))⟩

theorem ioxWinSt4Rtehi (p u n : Nat) (w : Word32) :
    Statement (.ioxWinSt4Rtehi p u n w) := fun _ h =>
  ⟨_, _, _, _, _, _, rfl, ⟨le_of rfl, le_of rfl⟩, lt_of rfl,
    index_lt (left (left h)), index_lt (right (left h))⟩

theorem ioxWinLd4Undef (p u : Nat) (x : Byte) :
    Statement (.ioxWinLd4Undef p u x) := fun _ h =>
  ⟨_, _, _, _, _, _, rfl, ⟨le_of rfl, le_of rfl⟩, lt_of rfl,
    index_lt (left (left h)), index_lt (right (left h))⟩

theorem ioxWinSt4Undef (p u : Nat) (x : Byte) (w : Word32) :
    Statement (.ioxWinSt4Undef p u x w) := fun _ h =>
  ⟨_, _, _, _, _, _, rfl, ⟨le_of rfl, le_of rfl⟩, lt_of rfl,
    index_lt (left (left h)), index_lt (right (left h))⟩

theorem msgInt (q : Nat) (m : MsgBody) :
    Statement (.msgInt q m) := fun _ h =>
  ⟨_, _, _, _, _, _, rfl, ⟨le_of rfl, le_of rfl⟩, lt_of rfl,
    index_lt h, lt_of rfl⟩

theorem msgPmi (q : Nat) (m : MsgBody) :
    Statement (.msgPmi q m) := fun _ h =>
  ⟨_, _, _, _, _, _, rfl, ⟨le_of rfl, le_of rfl⟩, lt_of rfl,
    index_lt h, lt_of rfl⟩

theorem msgNmi (q : Nat) (m : MsgBody) :
    Statement (.msgNmi q m) := fun _ h =>
  ⟨_, _, _, _, _, _, rfl, ⟨le_of rfl, le_of rfl⟩, lt_of rfl,
    index_lt h, lt_of rfl⟩

theorem msgInit (q : Nat) (m : MsgBody) :
    Statement (.msgInit q m) := fun _ h =>
  ⟨_, _, _, _, _, _, rfl, ⟨le_of rfl, le_of rfl⟩, lt_of rfl,
    index_lt h, lt_of rfl⟩

theorem msgExtint (q : Nat) (m : MsgBody) :
    Statement (.msgExtint q m) := fun _ h =>
  ⟨_, _, _, _, _, _, rfl, ⟨le_of rfl, le_of rfl⟩, lt_of rfl,
    index_lt h, lt_of rfl⟩

theorem msgUndef001 (q : Nat) (m : MsgBody) :
    Statement (.msgUndef001 q m) := fun _ h =>
  ⟨_, _, _, _, _, _, rfl, ⟨le_of rfl, le_of rfl⟩, lt_of rfl,
    index_lt h, lt_of rfl⟩

theorem msgUndef011 (q : Nat) (m : MsgBody) :
    Statement (.msgUndef011 q m) := fun _ h =>
  ⟨_, _, _, _, _, _, rfl, ⟨le_of rfl, le_of rfl⟩, lt_of rfl,
    index_lt h, lt_of rfl⟩

theorem msgUndef110 (q : Nat) (m : MsgBody) :
    Statement (.msgUndef110 q m) := fun _ h =>
  ⟨_, _, _, _, _, _, rfl, ⟨le_of rfl, le_of rfl⟩, lt_of rfl,
    index_lt h, lt_of rfl⟩

end Sys2Proof.Laws.EncodeShape
end

