-- ==== Sys2Proof/Tests/Slice0.lean ====
section
/-! SUPPORT. Tests on fixed values. Expected results come from the keys of spec/opcode_table.json and the
vectors of `95_test_vectors.md`, named in each comment, or from the rule named there. -/

namespace Sys2Proof.Tests

open Sys2Proof Sys2Proof.Machine

set_option maxRecDepth 20000

/-! ### Small states -/

/-- A set of vectors as pending or in-service bits. -/
def bits (n : Nat) : List Nat → BitVec n
  | [] => 0
  | v :: l => writeBit (bits n l) v true

/-- Processor 0: LID 00:00, bus 1, no LINT pins. -/
def procA : Proc := Proc.reset { bus := 1, hasLint := false, lid0 := 0#16 }

/-- Processor 1: LID 12:34, bus 0. -/
def procB : Proc := Proc.reset { bus := 0, hasLint := true, lid0 := 0x1234#16 }

/-- Processor 1 with what is pending and in service, and its effective TPR. -/
def procV (irr insvc : List Nat) (mic : BitVec 4) (mmi nmi ext : Bool) : Proc :=
  { procB with irr := bits 256 irr, insvc := bits 256 insvc, tpr := Ser.same { mic := mic, mmi := mmi },
               nmiP := nmi, extP := ext }

/-- The unit of the vectors V41: 24 entries, version 0x21. -/
def unitA : IoUnit :=
  IoUnit.reset { base := 0xFEC00000#64, maxRte := 23, version := 0x21#8, hasIrqAssert := true, hasIoEoi := true }

/-- Two processors, the second `P`, and one unit `U`. -/
def sys (P : Proc) (U : IoUnit) : State := { State.reset with procs := [procA, P], units := [U] }

/-- The usual state. -/
def base : State := sys procB unitA

/-- Entry 3 of the vectors V43: destination 12:34. -/
def entryV (vector : Byte) (dm : DMode) (t m : Bool) : Entry :=
  { Entry.reset with vector := vector, dm := dm, t := t, m := m, id := 0x12, eid := 0x34 }

/-- The unit with the given entry 3. -/
def unitE (E : Entry) : IoUnit := unitA.setEntry 3 E

/-- The message to 12:34. -/
def msgB (dm : DMode) (vector : Byte) (h t : Bool) : Msg :=
  { id := 0x12, eid := 0x34, h := h, dm := dm, vector := vector, t := t }

/-- `P` with the message on its bus. -/
def arrived (P : Proc) (m : Msg) : State := { sys P unitA with sysBus := [(0, m)] }

/-- Processor 1 after a step, seen through `f`. -/
def proc1 {α : Type} (f : Proc → α) : Res → Option α
  | .next s => (s.procs[1]?).map f
  | _ => none

/-- Entry 3 after a step, seen through `f`. -/
def entry3 {α : Type} (f : Entry → α) : Res → Option α
  | .next s =>
    match s.units with
    | U :: _ => (U.entries[3]?).map f
    | [] => none
  | _ => none

/-- The state after a step, seen through `f`. -/
def after {α : Type} (f : State → α) : Res → Option α
  | .next s => some (f s)
  | _ => none

/-- What a step is refused for. -/
def refusal : Res → Option Refusal
  | .refused r => some r
  | _ => none

/-! ### Well-formedness: each check refuses an ill-formed term -/

theorem test_wf_index : (Instr.movFromLid 65536).wellFormed = false ∧ (Instr.movFromLid 65535).wellFormed = true ∧
    (Instr.ioxSelLd4 0 65536).wellFormed = false ∧
    (Instr.msgInt 65536 { id := 0, eid := 0, h := false, vector := 0x40, t := false }).wellFormed = false := by
  decide

theorem test_wf_ipi_address : (Instr.ipiSt8 0 0xFEDFFFF8 0).wellFormed = false ∧
    (Instr.ipiSt8 0 0xFEF00000 0).wellFormed = false ∧ (Instr.ipiSt8 0 0xFEE00004 0).wellFormed = false ∧
    (Instr.ipiSt8 0 0xFEEFFFF8 0).wellFormed = true := by decide

theorem test_wf_ipi_bad : (Instr.ipiStBad 0 0xFEE12340 8 0).wellFormed = false ∧
    (Instr.ipiStBad 0 0xFEE12340 65536 0).wellFormed = false ∧
    (Instr.ipiStBad 0 0xFEE12340 4 0).wellFormed = true ∧ (Instr.ipiLd 0 0xFEF00000 8).wellFormed = false := by
  decide

theorem test_wf_upper_pib : (Instr.xtpSt1 0 0xFEFE0009 1).wellFormed = false ∧
    (Instr.intaLd1 0 0xFEFE0008).wellFormed = false ∧
    (Instr.pibUndef 0 0xFEFE0008 1 true 0).wellFormed = false ∧
    (Instr.pibUndef 0 0xFEFE0000 1 false 0).wellFormed = false ∧
    (Instr.pibUndef 0 0xFEFE0008 1 false 1).wellFormed = false ∧
    (Instr.pibUndef 0 0xFEE00000 8 true 0).wellFormed = false ∧
    (Instr.pibUndef 0 0xFEFE0008 1 false 0).wellFormed = true := by decide

theorem test_wf_entry : (Instr.ioxWinLd4Rtelo 0 0 120).wellFormed = false ∧
    (Instr.ioxWinLd4Rtehi 0 0 119).wellFormed = true ∧ (Instr.ioxWinLd4Undef 0 0 1).wellFormed = false ∧
    (Instr.ioxWinSt4Undef 0 0 0x10 0).wellFormed = false ∧ (Instr.ioxWinSt4Undef 0 0 0x0F 0).wellFormed = true := by
  decide

/-! ### Decoding: words written out from the keys of spec/opcode_table.json -/

theorem test_decode_cr_reads :
    decode [0x40, 0, 1, 8, 2, 0] = .ok (.movFromLid 2) ∧ decode [0x41, 0, 1, 8, 2, 0] = .ok (.movFromIvr 2) ∧
    decode [0x42, 0, 1, 8, 2, 0] = .ok (.movFromTpr 2) ∧ decode [0x43, 0, 1, 8, 2, 0] = .ok (.movFromEoi 2) ∧
    decode [0x44, 0, 1, 8, 2, 0] = .ok (.movFromIrr0 2) ∧ decode [0x45, 0, 1, 8, 2, 0] = .ok (.movFromIrr1 2) ∧
    decode [0x46, 0, 1, 8, 2, 0] = .ok (.movFromIrr2 2) ∧ decode [0x47, 0, 1, 8, 2, 0] = .ok (.movFromIrr3 2) ∧
    decode [0x48, 0, 1, 8, 2, 0] = .ok (.movFromItv 2) ∧ decode [0x49, 0, 1, 8, 2, 0] = .ok (.movFromPmv 2) ∧
    decode [0x4A, 0, 1, 8, 2, 0] = .ok (.movFromCmcv 2) ∧ decode [0x50, 0, 1, 8, 2, 0] = .ok (.movFromLrr0 2) ∧
    decode [0x51, 0, 1, 8, 2, 0] = .ok (.movFromLrr1 2) := by
  refine ⟨rfl, rfl, rfl, rfl, rfl, rfl, rfl, rfl, rfl, rfl, rfl, rfl, rfl⟩

theorem test_decode_cr_writes :
    decode [0x40, 7, 2, 8, 2, 0] = .ok (.movToLid 2 7) ∧ decode [0x41, 7, 2, 8, 2, 0] = .ok (.movToIvr 2 7) ∧
    decode [0x42, 7, 2, 8, 2, 0] = .ok (.movToTpr 2 7) ∧ decode [0x43, 7, 2, 8, 2, 0] = .ok (.movToEoi 2 7) ∧
    decode [0x44, 7, 2, 8, 2, 0] = .ok (.movToIrr0 2 7) ∧ decode [0x45, 7, 2, 8, 2, 0] = .ok (.movToIrr1 2 7) ∧
    decode [0x46, 7, 2, 8, 2, 0] = .ok (.movToIrr2 2 7) ∧ decode [0x47, 7, 2, 8, 2, 0] = .ok (.movToIrr3 2 7) ∧
    decode [0x48, 7, 2, 8, 2, 0] = .ok (.movToItv 2 7) ∧ decode [0x49, 7, 2, 8, 2, 0] = .ok (.movToPmv 2 7) ∧
    decode [0x4A, 7, 2, 8, 2, 0] = .ok (.movToCmcv 2 7) ∧ decode [0x50, 7, 2, 8, 2, 0] = .ok (.movToLrr0 2 7) ∧
    decode [0x51, 7, 2, 8, 2, 0] = .ok (.movToLrr1 2 7) := by
  refine ⟨rfl, rfl, rfl, rfl, rfl, rfl, rfl, rfl, rfl, rfl, rfl, rfl, rfl⟩

theorem test_decode_psr : decode [0, 0, 4, 0, 1, 0] = .ok (.srlzD 1) ∧ decode [2, 0, 3, 0, 1, 0] = .ok (.ssmI 1) ∧
    decode [0, 0, 3, 0, 1, 0] = .ok (.rsmI 1) ∧ decode [3, 0, 3, 0, 1, 0] = .ok (.ssmIc 1) ∧
    decode [0, 0, 5, 0, 1, 0] = .ok (.rfi 1) := ⟨rfl, rfl, rfl, rfl, rfl⟩

/-- V30-1, V42-7, V42-8, V42-13; the default offsets of R83. -/
theorem test_decode_pib : decode [0xFEE12340, 0x80, 6, 8, 1, 0] = .ok (.ipiSt8 1 0xFEE12340 0x80) ∧
    decode [0xFEE12344, 0x80, 6, 8, 1, 0] = .ok (.ipiStBad 1 0xFEE12344 8 0x80) ∧
    decode [0xFEE12340, 0x80, 6, 4, 1, 0] = .ok (.ipiStBad 1 0xFEE12340 4 0x80) ∧
    decode [0xFEEFFFFF, 0, 7, 1, 1, 0] = .ok (.ipiLd 1 0xFEEFFFFF 1) ∧
    decode [0xFEFE0008, 0x55, 8, 1, 1, 0] = .ok (.xtpSt1 1 0xFEFE0008 0x55) ∧
    decode [0xFEFE0000, 0, 9, 1, 1, 0] = .ok (.intaLd1 1 0xFEFE0000) ∧
    decode [0xFEF00000, 9, 6, 8, 1, 0] = .ok (.pibUndef 1 0xFEF00000 8 true 9) ∧
    decode [0xFEF00000, 0, 7, 8, 1, 0] = .ok (.pibUndef 1 0xFEF00000 8 false 0) := by decide

/-- R87; V30-21 to V30-24, V41-13. -/
theorem test_decode_iox : decode [0x00, 0x16, 11, 4, 1, 2] = .ok (.ioxSelSt4 1 2 0x16) ∧
    decode [0x00, 0, 10, 4, 1, 2] = .ok (.ioxSelLd4 1 2) ∧
    decode [0x20, 5, 11, 4, 1, 2] = .ok (.ioxIrqaSt4 1 2 5) ∧
    decode [0x40, 0x61, 11, 4, 1, 2] = .ok (.ioxEoiSt4 1 2 0x61) ∧
    decode [0x01, 0, 12, 4, 1, 2] = .ok (.ioxWinLd4Ver 1 2) ∧
    decode [0x01, 5, 13, 4, 1, 2] = .ok (.ioxWinSt4Ver 1 2 5) ∧
    decode [0x10, 0, 12, 4, 1, 2] = .ok (.ioxWinLd4Rtelo 1 2 0) ∧
    decode [0xFE, 5, 13, 4, 1, 2] = .ok (.ioxWinSt4Rtelo 1 2 119 5) ∧
    decode [0x2B, 0, 12, 4, 1, 2] = .ok (.ioxWinLd4Rtehi 1 2 13) ∧
    decode [0x17, 5, 13, 4, 1, 2] = .ok (.ioxWinSt4Rtehi 1 2 3 5) ∧
    decode [0x0F, 0, 12, 4, 1, 2] = .ok (.ioxWinLd4Undef 1 2 0x0F) ∧
    decode [0x02, 5, 13, 4, 1, 2] = .ok (.ioxWinSt4Undef 1 2 0x02 5) :=
  ⟨rfl, rfl, rfl, rfl, rfl, rfl, rfl, rfl, rfl, rfl, rfl, rfl⟩

/-- R136: the mode is bits 10:8 of the data; R133: ID, EID and hint are bits 19:12, 11:4 and 3. -/
theorem test_decode_msg :
    decode [0x8061, 0x12348, 14, 0, 1, 0] = .ok (.msgInt 1 ⟨0x12, 0x34, true, 0x61, true⟩) ∧
    decode [0x0203, 0x12340, 14, 0, 1, 0] = .ok (.msgPmi 1 ⟨0x12, 0x34, false, 3, false⟩) ∧
    decode [0x0400, 0x12340, 14, 0, 1, 0] = .ok (.msgNmi 1 ⟨0x12, 0x34, false, 0, false⟩) ∧
    decode [0x0500, 0x12340, 14, 0, 1, 0] = .ok (.msgInit 1 ⟨0x12, 0x34, false, 0, false⟩) ∧
    decode [0x0700, 0x12340, 14, 0, 1, 0] = .ok (.msgExtint 1 ⟨0x12, 0x34, false, 0, false⟩) ∧
    decode [0x0100, 0x12340, 14, 0, 1, 0] = .ok (.msgUndef001 1 ⟨0x12, 0x34, false, 0, false⟩) ∧
    decode [0x0300, 0x12340, 14, 0, 1, 0] = .ok (.msgUndef011 1 ⟨0x12, 0x34, false, 0, false⟩) ∧
    decode [0x0600, 0x12340, 14, 0, 1, 0] = .ok (.msgUndef110 1 ⟨0x12, 0x34, false, 0, false⟩) :=
  ⟨rfl, rfl, rfl, rfl, rfl, rfl, rfl, rfl⟩

/-- Words that are no operation, by name. -/
theorem test_decode_refuses : decode [] = .error .wrongLength ∧ decode [0, 0, 15, 0, 0, 0] = .error .unknownFormat ∧
    decode [0x52, 0, 1, 8, 0, 0] = .error .unknownControlRegister ∧
    decode [0x40, 0, 1, 4, 0, 0] = .error .badWidth ∧ decode [0x40, 0, 1, 8, 65536, 0] = .error .badIndex ∧
    decode [1, 0, 3, 0, 0, 0] = .error .unknownPsrOperation ∧ decode [0x10, 0, 10, 4, 0, 0] = .error .badOffset ∧
    decode [0x0800, 0, 14, 0, 0, 0] = .error .strayBits ∧
    decode [0xFEDFFFF8, 0, 6, 8, 0, 0] = .error .badAddress := by decide

/-- R7, R140: on a platform with other control-register numbers and another PIB. -/
def otherPlat : Platform :=
  { Config.defaultPlatform with
    pibBase := 0x200000000, crIndex := { Config.defaultCrIndex with lid := 65, ivr := 64 } }

theorem test_decode_other_platform : decodeAt otherPlat [0x40, 0, 1, 8, 2, 0] = .ok (.movFromIvr 2) ∧
    encodeAt otherPlat (.movToLid 2 7) = [0x41, 7, 2, 8, 2, 0] ∧
    decodeAt otherPlat [0x200012340, 0x80, 6, 8, 1, 0] = .ok (.ipiSt8 1 0x200012340 0x80) ∧
    decodeAt otherPlat [0xFEE12340, 0x80, 6, 8, 1, 0] = .error .badAddress := by decide

/-- The host's reading of a table row (log 33), run as the first operation after reset. -/
theorem test_table_word : decodeTableWord 16 0x200 = some (.msgPmi 0 ⟨0, 0, false, 0, false⟩) ∧
    decodeTableWord 8 0x41 = some (.movFromIvr 0) ∧
    proc1 (fun _ => ()) (step (State.reset.withFetchWord 8 0x41)) = some () := by decide

/-! ### Layouts: V30 -/

/-- V30-1 to V30-4. -/
theorem test_ipi_address : ipiAddress 0xFEE00000 0x12 0x34 false = 0xFEE12340 ∧
    ipiAddress 0xFEE00000 0x12 0x34 true = 0xFEE12348 ∧ ipiAddress 0xFEE00000 0 0 false = 0xFEE00000 ∧
    ipiAddress 0xFEE00000 0xFF 0xFF true = 0xFEEFFFF8 := by decide

/-- V30-5, V30-7 to V30-12. -/
theorem test_ipi_datum : (ipiMsg 0xFEE05A70 0).id = 0x05 ∧ (ipiMsg 0xFEE05A70 0).eid = 0xA7 ∧
    ipiDatum DMode.int 0xFF = 0xFF ∧ ipiDatum DMode.nmi 0 = 0x400 ∧ ipiDatum DMode.pmi 1 = 0x201 ∧
    ipiDatum DMode.init 0 = 0x500 ∧ ipiDatum DMode.extInt 0 = 0x700 := by decide

/-- V30-13 to V30-18. -/
theorem test_rte_layout : packRteLo (entryV 0x61 DMode.int true true) 0 = 0x18061 ∧
    packRteLo { entryV 0x61 DMode.intHint true false with p := true } 0 = 0xA161 ∧
    packRteLo (entryV 0 DMode.nmi false false) 0 = 0x400 ∧
    packRteLo { entryV 0x61 DMode.int true true with s := true } (-1) = 0x1D061 ∧
    packRteHi (entryV 0 0 false false) = 0x12340000 := by decide

/-- V30-19, V30-20. -/
theorem test_version_layout : packVersion unitA = 0x00170021 ∧
    packVersion (IoUnit.reset { base := 0, maxRte := 119, version := 0x20, hasIrqAssert := false,
                                hasIoEoi := false }) = 0x00770020 := by decide

/-- V30-25 to V30-29: bits that a rule ignores come from the free word. -/
theorem test_cr_layouts : packLrr ⟨0, DMode.nmi, false, false, false⟩ 0 = 0x400 ∧
    packLrr ⟨0x30, DMode.int, true, true, true⟩ (-1) = 0xFFFFFFFFFFFFA030 ∧ packLvr ⟨0xEF, true⟩ = 0x100EF ∧
    packTpr ⟨5, true⟩ 0 = 0x10050 ∧ packTpr ⟨0xF, false⟩ (-1) = 0xFF ∧ packLid ⟨0x12, 0x34⟩ 0 = 0x12340000 ∧
    packLid ⟨0x12, 0x34⟩ (-1) = 0xFFFFFFFF12340000 := by decide

/-- V30-30. -/
theorem test_bus_spelling : busAddress 0xFEE00000 (entryV 0x61 DMode.intHint true false).msg = 0xFEE12348 ∧
    ioBusMsg 0xFEE12348 0x8161 = msgB DMode.int 0x61 true true := by decide

/-! ### Control registers: V40 -/

/-- V40-1, V40-3. -/
theorem test_ivr_read : proc1 (fun P => (P.result, P.irr, P.insvc))
      (exec (.movFromIvr 1) (sys (procV [0x41, 0x51] [] 0 false false false) unitA)) =
      some (0x51, bits 256 [0x41], bits 256 [0x51]) ∧
    proc1 (fun P => (P.result, P.irr, P.insvc)) (exec (.movFromIvr 1) base) = some (0x0F, 0, 0) := by
  decide

/-- V40-2, V40-5 to V40-7, V40-11; V60-1 to V60-10. -/
theorem test_masking : (procV [0x41] [0x51] 0 false false false).hpu = none ∧
    (procV [0x5F] [] 5 false false false).hpu = none ∧ (procV [0x60] [] 5 false false false).hpu = some 0x60 ∧
    (procV [0xEF] [] 0xE false false false).hpu = none ∧ (procV [0xF0] [] 0xE false false false).hpu = some 0xF0 ∧
    (procV [0xFF] [] 0xF false false false).hpu = none ∧ (procV [0x10] [] 0 false false false).hpu = some 0x10 ∧
    (procV [0x51] [0x41] 0 false false false).hpu = some 0x51 ∧
    (procV [0x80] [0x80] 0 false false false).hpu = none ∧
    (procV [0x80] [0x50] 7 false false false).hpu = some 0x80 ∧
    (procV [0x80] [0x50] 8 false false false).hpu = none := by decide

/-- V40-8 to V40-10; V60-11 to V60-16. -/
theorem test_nmi_extint : (procV [0xFF] [] 0 false true true).hpu = some 2 ∧
    (procV [0xFF] [2] 0 false false true).hpu = none ∧ (procV [0xFF] [] 0 false false true).hpu = some 0 ∧
    (procV [0x80] [] 0 true true true).hpu = some 2 ∧ (procV [] [] 0 true false true).hpu = none ∧
    (procV [] [] 0xF false false true).hpu = some 0 ∧ (procV [] [2] 0 false true false).hpu = none ∧
    (procV [] [0xFF] 0 false false true).hpu = some 0 ∧ (procV [0xFF] [0] 0 false false false).hpu = none := by
  decide

/-- V40-12 to V40-14: EOI, then `srlz.d`. -/
theorem test_srlz_eoi :
    proc1 (fun P => (P.insvc, P.eoiq))
      (exec (.srlzD 1) (sys { procV [] [0x50, 0x80] 0 false false false with eoiq := 1 } unitA)) =
      some (bits 256 [0x50], 0) ∧
    proc1 (fun P => (P.insvc, P.eoiq))
      (exec (.srlzD 1) (sys { procV [] [0x50, 0x80] 0 false false false with eoiq := 2 } unitA)) = some (0, 0) ∧
    refusal (exec (.srlzD 1) (sys { procB with eoiq := 1 } unitA)) = some .eoiNothingInService := by decide

/-- V40-15. -/
theorem test_eoi_write : proc1 (fun P => (P.eoiq, P.insvc))
    (exec (.movToEoi 1 7) (sys (procV [] [0x50] 0 false false false) unitA)) = some (1, bits 256 [0x50]) := by decide

/-- V40-17. -/
theorem test_read_only : proc1 Proc.flow (exec (.movToIvr 1 0) base) = some (.faulted .illegalOperation) ∧
    proc1 Proc.flow (exec (.movToIrr0 1 0) base) = some (.faulted .illegalOperation) ∧
    proc1 Proc.flow (exec (.movToIrr1 1 0) base) = some (.faulted .illegalOperation) ∧
    proc1 Proc.flow (exec (.movToIrr2 1 0) base) = some (.faulted .illegalOperation) ∧
    proc1 Proc.flow (exec (.movToIrr3 1 0) base) = some (.faulted .illegalOperation) := by decide

/-- V40-18. -/
theorem test_irr_reads :
    proc1 Proc.result (exec (.movFromIrr1 1) (sys (procV [0x41, 0x80, 0xFF] [] 0 false false false) unitA)) = some 2 ∧
    proc1 Proc.result (exec (.movFromIrr2 1) (sys (procV [0x41, 0x80, 0xFF] [] 0 false false false) unitA)) = some 1 ∧
    proc1 Proc.result (exec (.movFromIrr3 1) (sys (procV [0x41, 0x80, 0xFF] [] 0 false false false) unitA)) =
      some 0x8000000000000000 ∧
    packIrr0 (bits 256 [0x10, 0x3F]) 0 = 0x8000000000010000 ∧ packIrr0 0 (-1) = 5 := by decide

/-- V40-19 to V40-21. -/
theorem test_tpr_write :
    proc1 (fun P => (P.tpr.arch, P.tpr.eff.mic)) (exec (.movToTpr 1 0x5F) base) = some (⟨5, false⟩, 0) ∧
    proc1 (fun P => (P.tpr, P.flow)) (exec (.movToTpr 1 0x0100) base) =
      some (procB.tpr, .faulted .generalException) ∧
    proc1 (fun P => P.tpr.arch) (exec (.movToTpr 1 0x10050) base) = some ⟨5, true⟩ := by decide

/-- R162, with R33: the effective copy waits. -/
theorem test_lid_write : proc1 Proc.lid (exec (.movToLid 1 0xFFFFFFFF56780000) base) =
    some { arch := ⟨0x56, 0x78⟩, eff := ⟨0x12, 0x34⟩ } ∧
    proc1 Proc.flow (exec (.movToLid 1 0x56780001) base) = some (.faulted .generalException) := by decide

/-- V40-22 to V40-24. -/
theorem test_lrr_write : refusal (exec (.movToLrr0 1 0x0100) base) = some .undefinedDeliveryMode ∧
    refusal (exec (.movToLrr0 1 0x4030) base) = some .lrrUnlabelledBits ∧
    proc1 (fun P => P.lrr1.arch) (exec (.movToLrr1 1 0xFFFFFFFFFFFE0400) base) =
      some ⟨0, DMode.nmi, false, false, false⟩ ∧
    proc1 (fun P => P.lrr0.arch) (exec (.movToLrr0 1 0x1A030) base) =
      some ⟨0x30, DMode.int, true, true, true⟩ := by decide

/-- R174 to R179. -/
theorem test_lvr : proc1 (fun P => P.itv.arch) (exec (.movToItv 1 0x100EF) base) = some ⟨0xEF, true⟩ ∧
    proc1 (fun P => P.pmv.arch) (exec (.movToPmv 1 0x10) base) = some ⟨0x10, false⟩ ∧
    proc1 (fun P => P.cmcv.arch) (exec (.movToCmcv 1 0x20) base) = some ⟨0x20, false⟩ ∧
    proc1 Proc.result (exec (.movFromItv 1) (sys { procB with itv := ⟨⟨1, false⟩, ⟨0xEF, true⟩⟩ } unitA)) =
      some 0x100EF ∧
    proc1 Proc.result (exec (.movFromPmv 1) (sys { procB with pmv := ⟨⟨1, false⟩, ⟨0x30, false⟩⟩ } unitA)) =
      some 0x30 ∧
    proc1 Proc.result (exec (.movFromCmcv 1) (sys { procB with cmcv := ⟨⟨1, false⟩, ⟨0x31, true⟩⟩ } unitA)) =
      some 0x10031 := by decide

/-- V40-25, V40-26. -/
theorem test_local_events :
    proc1 Proc.irr (timerEvent 1 (sys { procB with itv := Ser.same ⟨0, true⟩ } unitA)) = some 0 ∧
    refusal (timerEvent 1 (sys { procB with itv := Ser.same ⟨5, false⟩ } unitA)) = some .lvrReservedVector ∧
    proc1 Proc.irr (pmuEvent 1 (sys { procB with pmv := Ser.same ⟨0x30, false⟩ } unitA)) =
      some (bits 256 [0x30]) ∧
    proc1 Proc.irr (cmcEvent 1 (sys { procB with cmcv := Ser.same ⟨0x10, false⟩ } unitA)) =
      some (bits 256 [0x10]) := by decide

/-- V40-27, V40-28; R186, R187. -/
theorem test_psr : proc1 Proc.psrI (exec (.ssmI 1) base) = some ⟨true, false⟩ ∧
    proc1 Proc.psrI (exec (.rsmI 1) (sys { procB with psrI := Ser.same true } unitA)) = some ⟨false, true⟩ ∧
    proc1 Proc.psrIc (exec (.ssmIc 1) base) = some ⟨true, false⟩ ∧
    proc1 (fun P => (P.psrI, P.psrIc)) (exec (.rfi 1) (sys { procB with ipsr := ⟨true, true⟩ } unitA)) =
      some (⟨true, true⟩, ⟨true, true⟩) := by decide

/-! ### I/O xAPIC: V41 -/

/-- V41-1, V41-2. -/
theorem test_select : after (fun s => s.units.map IoUnit.sel) (exec (.ioxSelSt4 1 0 0x16) base) = some [0x16] ∧
    refusal (exec (.ioxSelSt4 1 0 0x116) base) = some .selectAbove8Bits ∧
    proc1 Proc.result (exec (.ioxSelLd4 1 0) (base.withSel 0 0x16)) = some 0x16 := by decide

/-- V41-3, V41-4. -/
theorem test_version : proc1 Proc.result (exec (.ioxWinLd4Ver 1 0) (base.withSel 0 1)) = some 0x00170021 ∧
    refusal (exec (.ioxWinSt4Ver 1 0 7) (base.withSel 0 1)) = some .storeToVersion := by decide

/-- V41-5, V41-6. -/
theorem test_rtelo_store :
    entry3 id (exec (.ioxWinSt4Rtelo 1 0 3 0x18061)
      ((sys procB (unitE { entryV 0 0 false true with id := 0x77 })).withSel 0 0x16)) =
      some { entryV 0x61 DMode.int true true with id := 0x77 } ∧
    entry3 id (exec (.ioxWinSt4Rtelo 1 0 3 0x19061) ((sys procB (unitE (entryV 0 0 false true))).withSel 0 0x16)) =
      some (entryV 0x61 DMode.int true true) := by decide

/-- V41-7 to V41-9, V41-12, V41-13. -/
theorem test_window_refusals :
    refusal (exec (.ioxWinSt4Rtelo 1 0 3 0x1C061) (base.withSel 0 0x16)) = some .rteUnlabelledBits ∧
    refusal (exec (.ioxWinSt4Rtelo 1 0 3 0x20061) (base.withSel 0 0x16)) = some .ioxReservedField ∧
    refusal (exec (.ioxWinSt4Rtelo 1 0 3 0x10361) (base.withSel 0 0x16)) = some .undefinedDeliveryMode ∧
    refusal (exec (.ioxWinLd4Rtelo 1 0 24) (base.withSel 0 0x40)) = some .undefinedInternalRegister ∧
    refusal (exec (.ioxWinLd4Undef 1 0 0x00) (base.withSel 0 0x00)) = some .undefinedInternalRegister ∧
    refusal (exec (.ioxWinSt4Undef 1 0 0x02 0) (base.withSel 0 0x02)) = some .undefinedInternalRegister := by decide

/-- V41-10, V41-11. -/
theorem test_rtehi :
    entry3 (fun E => (E.id, E.eid)) (exec (.ioxWinSt4Rtehi 1 0 3 0x12340000) (base.withSel 0 0x17)) =
      some (0x12, 0x34) ∧
    proc1 Proc.result (exec (.ioxWinLd4Rtehi 1 0 3)
      ((sys procB (unitE (entryV 0 0 false false))).withSel 0 0x17)) = some 0x12340000 ∧
    refusal (exec (.ioxWinSt4Rtehi 1 0 3 0x12340001) (base.withSel 0 0x17)) = some .ioxReservedField := by decide

/-- V41-14 to V41-16, V41-17. -/
theorem test_io_eoi :
    entry3 Entry.await (exec (.ioxEoiSt4 1 0 0x61)
      (sys procB (unitE { entryV 0x61 0 true false with await := true }))) = some false ∧
    entry3 Entry.await (exec (.ioxEoiSt4 1 0 0x61)
      (sys procB (unitE { entryV 0x61 0 false false with await := true }))) = some true ∧
    entry3 Entry.await (exec (.ioxEoiSt4 1 0 0x62)
      (sys procB (unitE { entryV 0x61 0 true false with await := true }))) = some true ∧
    refusal (exec (.ioxEoiSt4 1 0 0x161) base) = some .ioEoiAbove8Bits ∧
    refusal (exec (.ioxIrqaSt4 1 0 0) base) = some .irqAssertSemantics := by decide

/-- V41-18, V41-20; R85. -/
theorem test_iox_access :
    claim ⟨1, true, false, 8, 0xFEC00010, 0⟩ base = .refuse .partialIoxAccess ∧
    claim ⟨1, false, false, 4, 0xFEC00012, 0⟩ base = .refuse .partialIoxAccess ∧
    claim ⟨1, false, false, 4, 0xFEC00040, 0⟩ base = .refuse .undefinedIoxOffset ∧
    claim ⟨1, true, false, 4, 0xFEC00040, 0x61⟩ base = .instr (.ioxEoiSt4 1 0 0x61) ∧
    claim ⟨1, false, true, 8, 0xFEE00000, 0⟩ base = .refuse .cacheableDeviceAccess := by decide

/-! ### Processor Interrupt Block: V42 -/

/-- V42-1, V42-2: the destination is processor 1, on bus 0. -/
theorem test_ipi : after State.sysBus (exec (.ipiSt8 0 0xFEE12340 0x80) base) =
      some [(0, msgB DMode.int 0x80 false false)] ∧
    after State.sysBus (exec (.ipiSt8 1 0xFEE12348 0x400) base) =
      some [(0, msgB DMode.nmi 0 true false)] := by decide

/-- V42-3 to V42-5. -/
theorem test_ipi_refused : refusal (exec (.ipiSt8 0 0xFEE12340 0x180) base) = some .undefinedDeliveryMode ∧
    refusal (exec (.ipiSt8 0 0xFEE12340 0x8080) base) = some .ipiReservedField ∧
    refusal (exec (.ipiSt8 0 0xFEE12340 0x10080) base) = some .ipiReservedField := by decide

/-- V42-7, V42-8, V42-13. -/
theorem test_pib_refused : refusal (exec (.ipiStBad 0 0xFEE12340 4 0) base) = some .malformedIpiStore ∧
    refusal (exec (.ipiLd 0 0xFEE12340 8) base) = some .loadFromDeliveryArea ∧
    refusal (exec (.pibUndef 0 0xFEF00000 8 true 0) base) = some .undefinedPibAddress := by decide

/-- V42-9, V42-10, V42-12. -/
theorem test_xtp_inta : proc1 Proc.xtp (exec (.xtpSt1 1 0xFEFE0008 0x55) base) = some 0x55 ∧
    proc1 Proc.xtp (exec (.xtpSt1 1 0xFEFE0008 0x55)
      { base with plat := { base.plat with hasIpiRedirect := false } }) = some 0 ∧
    after State.draws (exec (.intaLd1 1 0xFEFE0000) base) = some 1 ∧
    refusal (exec (.intaLd1 1 0xFEFE0000) { base with plat := { base.plat with has8259 := false } }) =
      some .noExternalController := by decide

/-! ### Messages and pins: V43 -/

/-- V43-7, V43-8; R315. -/
theorem test_msg_int :
    proc1 Proc.irr (exec (.msgInt 1 (msgB 0 0x61 false true).body)
      (arrived (procV [0x61] [0x61] 0 false false false) (msgB 0 0x61 false true))) = some (bits 256 [0x61]) ∧
    after State.sysBus (exec (.msgInt 1 (msgB 0 0x61 false true).body)
      (arrived procB (msgB 0 0x61 false true))) = some [] ∧
    refusal (exec (.msgInt 1 (msgB 0 5 false false).body) (arrived procB (msgB 0 5 false false))) =
      some .intReservedVector := by decide

/-- V43-9 to V43-11; R316, R319, R320. -/
theorem test_msg_others :
    proc1 Proc.extP (exec (.msgExtint 1 (msgB 7 0 false false).body) (arrived procB (msgB 7 0 false false))) =
      some true ∧
    proc1 Proc.pmiP (exec (.msgPmi 1 (msgB 2 3 false false).body) (arrived procB (msgB 2 3 false false))) =
      some (bits 16 [3]) ∧
    refusal (exec (.msgPmi 1 (msgB 2 0x10 false false).body) (arrived procB (msgB 2 0x10 false false))) =
      some .pmiVectorAbove15 ∧
    proc1 Proc.nmiP (exec (.msgNmi 1 (msgB 4 9 false false).body) (arrived procB (msgB 4 9 false false))) =
      some true ∧
    proc1 Proc.initP (exec (.msgInit 1 (msgB 5 9 false false).body) (arrived procB (msgB 5 9 false false))) =
      some true := by decide

/-- R320. -/
theorem test_msg_undef :
    refusal (exec (.msgUndef001 1 (msgB 1 0x61 false false).body) (arrived procB (msgB 1 0x61 false false))) =
      some .undefinedDeliveryMode ∧
    refusal (exec (.msgUndef011 1 (msgB 3 0x61 false false).body) (arrived procB (msgB 3 0x61 false false))) =
      some .undefinedDeliveryMode ∧
    refusal (exec (.msgUndef110 1 (msgB 6 0x61 false false).body) (arrived procB (msgB 6 0x61 false false))) =
      some .undefinedDeliveryMode := by decide

/-- V43-1, V43-4, V43-15, V43-16. -/
theorem test_sample_edge :
    entry3 (fun E => (E.s, E.pin)) (samplePin 0 3
      (sys procB (unitE { entryV 0x61 0 false false with pin := ⟨true, false⟩ }))) = some (true, ⟨true, true⟩) ∧
    entry3 (fun E => (E.s, E.pin)) (samplePin 0 3
      (sys procB (unitE { entryV 0x61 0 false true with pin := ⟨true, false⟩ }))) = some (false, ⟨true, true⟩) ∧
    refusal (samplePin 0 3 (sys procB (unitE { entryV 0 7 true false with pin := ⟨true, false⟩ }))) =
      some .extIntLevel ∧
    entry3 Entry.s (samplePin 0 3
      (sys procB (unitE { entryV 0 4 true false with pin := ⟨true, false⟩ }))) = some true := by decide

/-- V43-6, V43-22, V43-23. -/
theorem test_sample_level :
    entry3 Entry.s (samplePin 0 3
      (sys procB (unitE { entryV 0x61 0 true false with pin := ⟨true, true⟩ }))) = some true ∧
    entry3 Entry.s (samplePin 0 3
      (sys procB (unitE { entryV 0x61 0 true false with pin := ⟨true, true⟩, await := true }))) = some false ∧
    entry3 Entry.s (samplePin 0 3
      (sys procB (unitE { entryV 0x61 0 true false with pin := ⟨false, true⟩ }))) = some false := by decide

/-- V43-2, V43-6, V43-16, V43-17. -/
theorem test_send :
    after State.ioBus (sendEntry 0 3 (sys procB (unitE { entryV 0x61 0 true false with s := true }))) =
      some [msgB 0 0x61 false true] ∧
    entry3 (fun E => (E.s, E.await))
      (sendEntry 0 3 (sys procB (unitE { entryV 0x61 0 true false with s := true }))) = some (false, true) ∧
    entry3 (fun E => (E.s, E.await))
      (sendEntry 0 3 (sys procB (unitE { entryV 0x61 4 true false with s := true }))) = some (false, false) ∧
    after State.ioBus (sendEntry 0 3 (sys procB (unitE { entryV 0x61 1 false false with s := true }))) =
      some [msgB 0 0x61 true false] := by decide

/-- R304; V43-14, V42-14. -/
theorem test_bridge_and_drop :
    after (fun s => (s.ioBus, s.sysBus)) (bridge (msgB 0 0x61 true true)
      { base with ioBus := [msgB 0 0x61 true true] }) = some ([], [(0, msgB 0 0x61 false true)]) ∧
    after State.sysBus (dropMsg 0 { msgB 0 0x61 false false with id := 0x55 }
      { base with sysBus := [(0, { msgB 0 0x61 false false with id := 0x55 })] }) = some [] ∧
    after State.sysBus (ipiHint 0 (msgB 0 0x80 true false)
      { base with sysBus := [(0, msgB 0 0x80 true false)],
                  plat := { base.plat with hasIpiRedirect := false } }) = some [] := by decide

/-- R309: a hinted IPI on bus 1 goes to the bus of its destination, 0; without XTP registers as it is. -/
theorem test_ipi_hint : after State.sysBus (ipiHint 1 (msgB 0 0x80 true false)
    { base with sysBus := [(1, msgB 0 0x80 true false)],
                plat := { base.plat with ipiXtp := false } }) = some [(0, msgB 0 0x80 false false)] := by
  decide

/-- R314: a message for two holders on a bus, whatever moves next; R302, D29. -/
theorem test_duplicates_and_device_message :
    refusal (step { base with procs := [procB, procB], sysBus := [(7, msgB 0 0x61 true false)] }) =
      some .duplicateLids ∧
    after State.ioBus (deviceMsg (msgB 1 0x61 true true)
      { base with plat := { base.plat with pibBase := 0x200000000 } }) = some [msgB 0 0x61 true true] ∧
    refusal (deviceMsg (msgB 6 0x61 false false) base) = some .undefinedDeliveryMode := by decide

/-- R84, R260: no device write runs into the PIB or a unit's window. -/
theorem test_device_write : refusal (ioBusWrite 0xFEDFFFFD 0 base) = some .memoryAccessForm ∧
    refusal (ioBusWrite 0xFEC000FC 0 base) = some .ioBusWriteToDevice ∧
    refusal (ioBusWrite 0xFEF00000 0 base) = some .malformedIoBusMessage ∧
    after State.stores (ioBusWrite 0xFEDFFFFC 0x04030201 base) =
      some [⟨0xFEDFFFFC, 4, 0x04030201, some 0⟩] := by decide

/-- R103: a message waits for the data written before it, and not for later data; log 29: data of other
widths, none into a window. -/
theorem test_data_before_interrupt :
    bridge (msgB 0 0x61 false true) { base with
      ioBus := [msgB 4 0 false false, msgB 0 0x61 false true], stores := [⟨0x1000, 8, 5, some 1⟩] } =
      .fault .notEnabled ∧
    after (fun s => (s.ioBus, s.sysBus, s.stores)) (bridge (msgB 4 0 false false) { base with
      ioBus := [msgB 4 0 false false, msgB 0 0x61 false true], stores := [⟨0x1000, 8, 5, some 1⟩] }) =
      some ([msgB 0 0x61 false true], [(0, msgB 4 0 false false)], [⟨0x1000, 8, 5, some 0⟩]) ∧
    after State.stores (deviceData 0x1001 1 7 { base with ioBus := [msgB 4 0 false false] }) =
      some [⟨0x1001, 1, 7, some 1⟩] ∧
    refusal (deviceData 0x1004 8 7 base) = some .memoryAccessForm ∧
    deviceData (2 ^ 63) 8 7 base = .fault (.noSuchAddress (2 ^ 63)) ∧
    refusal (deviceData 0xFEC000F8 8 7 base) = some .ioBusWriteToDevice := by
  exact ⟨rfl, by decide, by decide, by decide, rfl, by decide⟩

/-- V43-18 to V43-20. -/
theorem test_lint :
    proc1 Proc.nmiP (sampleLint 1 .lint0 (sys { procB with
      lrr0 := Ser.same ⟨0, 4, false, false, false⟩, lint0 := ⟨true, false⟩ } unitA)) = some true ∧
    proc1 Proc.irr (sampleLint 1 .lint1 (sys { procV [0x30] [] 0 false false false with
      lrr1 := Ser.same ⟨0x30, 0, false, true, false⟩, lint1 := ⟨false, true⟩ } unitA)) = some 0 ∧
    proc1 Proc.irr (sampleLint 1 .lint1 (sys { procB with
      lrr1 := Ser.same ⟨0x30, 0, false, true, true⟩, lint1 := ⟨true, false⟩ } unitA)) = some 0 := by decide

/-- R326, D44: a vector below 0x10 on a pin that stays active, whichever way the choice falls. -/
theorem test_lint_stays_active :
    procB.sampleLint ⟨5, 0, false, true, false⟩ true true false = .ok procB ∧
    procB.sampleLint ⟨5, 0, false, true, false⟩ true true true = .error .intReservedVector ∧
    procB.sampleLint ⟨5, 0, false, true, false⟩ false true false = .error .intReservedVector := ⟨rfl, rfl, rfl⟩

/-- V43-21; R333 (log 22). -/
theorem test_pins : proc1 Proc.pmiP (driveDedicated 1 .pmi true base) = some (bits 16 [0]) ∧
    entry3 Entry.pin (drivePin 0 3 true base) = some ⟨true, false⟩ ∧
    refusal (drivePin 0 3 false (sys procB (unitE { entryV 0 0 false false with pin := ⟨true, false⟩ }))) =
      some .pulseTooShort := by decide

/-! ### Taking interruptions: V60-17 to V60-20 -/

theorem test_accept :
    proc1 (fun P => (P.ipsr, P.psrI, P.psrIc, P.event)) (accept 1 (sys { procV [0x30] [] 0 false false false with
      psrI := Ser.same true, psrIc := Ser.same true } unitA)) =
      some (⟨true, true⟩, ⟨false, false⟩, ⟨false, false⟩, .extIntEntry 0x3000) ∧
    refusal (accept 1 (sys { procV [0x30] [] 0 false false false with psrI := Ser.same true } unitA)) =
      some .collectionOff ∧
    accept 1 (sys (procV [0x30] [] 0 false false false) unitA) = .fault .notEnabled := by
  exact ⟨by decide, by decide, rfl⟩

theorem test_pmi_init :
    proc1 Proc.pmiP (takePmi 1 1 (sys { procB with pmiP := bits 16 [1] } unitA)) = some 0 ∧
    proc1 (fun P => (P.initP, P.flow)) (takeInit 1 (sys { procB with initP := true } unitA)) =
      some (false, .initialized) := by decide

/-- A store and a load of memory are on their way (log 25, log 38), land and are performed; a load may or may
not see a store on its way; later ones may be first. -/
theorem test_memory : after (fun s => (s.mem, s.stores)) (runAccess ⟨1, true, true, 2, 0x1000, 0xABCD⟩ base) =
      some ([], [⟨0x1000, 2, 0xABCD, none⟩]) ∧
    after State.loads (runAccess ⟨1, false, true, 2, 0x1000, 0⟩ base) = some [⟨1, 0x1000, 2⟩] ∧
    after (fun s => (s.mem, s.stores)) (land 1
      { base with stores := [⟨0x1001, 1, 7, none⟩, ⟨0x1000, 2, 0xABCD, none⟩] }) =
      some ([(0x1000, 0xCD), (0x1001, 0xAB)], [⟨0x1001, 1, 7, none⟩]) := by decide

theorem test_load :
    proc1 Proc.result (perform 0 [] { base with
      mem := [(0x1000, 1), (0x1001, 2)], stores := [⟨0x1000, 2, 0xABCD, none⟩], loads := [⟨1, 0x1000, 2⟩] }) = some 0x0201 ∧
    proc1 Proc.result (perform 0 [none, some 0] { base with
      mem := [(0x1000, 1), (0x1001, 2)], stores := [⟨0x1000, 2, 0xABCD, none⟩], loads := [⟨1, 0x1000, 2⟩] }) = some 0xAB01 ∧
    perform 0 [] { base with loads := [⟨1, 0x1000, 2⟩] } = .fault (.unwrittenByte 0x1000) := by
  exact ⟨by decide, by decide, rfl⟩

/-- R54, R80: no unit answers at or above `2^63`. -/
theorem test_nowhere : runAccess ⟨1, true, false, 4, 0x8000000000000000, 0x16⟩
    (sys procB { unitA with base := 0x8000000000000000 }) = .fault (.noSuchAddress (2 ^ 63)) := rfl

/-- R84: an aligned access that runs into a unit's window. -/
theorem test_straddle : refusal (runAccess ⟨1, true, true, 8, 0x1000, 0⟩
    (sys procB { unitA with base := 0x1004 })) = some .straddlesDevice := by decide

/-! ### Witnesses: states and operands that meet the hypotheses of each statement, at the edges of each
clause's range -/

theorem running_sys (P : Proc) (U : IoUnit) (h : P.flow = .running) : Running (sys P U) 1 P := ⟨rfl, h⟩

theorem running_base : Running base 1 procB := ⟨rfl, rfl⟩

theorem next_of_proc1 {α : Type} {f : Proc → α} {r : Res} {x : α} (h : proc1 f r = some x) :
    ∃ s' P', r = .next s' ∧ s'.procs[1]? = some P' ∧ f P' = x := by
  cases r with
  | next s' =>
    obtain ⟨P', hP, hx⟩ := Option.map_eq_some_iff.mp h
    exact ⟨s', P', rfl, hP, hx⟩
  | fault _ => cases h
  | refused _ => cases h

theorem next_of_entry3 {α : Type} {f : Entry → α} {r : Res} {x : α} (h : entry3 f r = some x) :
    ∃ s' U' E', r = .next s' ∧ HasEntry s' 0 3 U' E' ∧ f E' = x := by
  cases r with
  | next s' =>
    obtain ⟨_, _, units, _, _, _, _, _, _, _⟩ := s'
    cases units with
    | nil => cases h
    | cons U l =>
      obtain ⟨E', hE, hx⟩ := Option.map_eq_some_iff.mp h
      exact ⟨_, U, E', rfl, ⟨rfl, hE⟩, hx⟩
  | fault _ => cases h
  | refused _ => cases h

theorem next_of_after {α : Type} {f : State → α} {r : Res} {x : α} (h : after f r = some x) :
    ∃ s', r = .next s' ∧ f s' = x := by
  cases r with
  | next s' => exact ⟨s', rfl, Option.some.inj h⟩
  | fault _ => cases h
  | refused _ => cases h

/-- The next move. -/
def doing (s : State) (mv : Move) : State := { s with agenda := [mv] }

theorem default_distinct : Config.defaultCrIndex.Distinct := by
  intro x y
  cases x <;> cases y <;> decide

theorem witness_DecodeOfEncode : Config.defaultPlatform.crIndex.Distinct ∧ (Instr.ipiSt8 65535 0xFEEFFFF8 (-1)).wellFormed = true ∧
    (Instr.ipiStBad 0 0xFEEFFFFF 65535 (-1)).wellFormed = true ∧
    (Instr.pibUndef 0 0xFEFFFFFF 8 true (-1)).wellFormed = true ∧
    (Instr.ioxWinSt4Rtehi 65535 65535 119 (-1)).wellFormed = true ∧
    (Instr.ioxWinLd4Undef 0 0 0x0F).wellFormed = true := ⟨default_distinct, by decide⟩

theorem witness_EncodeOfDecode : decodeAt Config.defaultPlatform [0xFEEFFFFF, 9, 6, 65535, 65535, 0] =
    .ok (.ipiStBad 65535 0xFEEFFFFF 65535 9) := rfl

theorem witness_MessageSpellings : (0xFEE00000#64).extractLsb' 0 20 = 0 := by decide

theorem witness_StepRunsTheOperation :
    ({ base with procs := [procB, procB], sysBus := [(0, msgB 0 0x61 false false)] } : State).duplicateHeld =
      true ∧ (doing base (.op [1])).duplicateHeld = false ∧
    decodeAt base.plat [0x41, 0, 1, 8, 1, 0] = .ok (.movFromIvr 1) ∧
    (doing base (.op [0x41, 0, 1, 8, 1, 0])).agenda = .op [0x41, 0, 1, 8, 1, 0] :: [] ∧
    (doing base (.receive 1 (msgB 0 0x61 false false))).agenda = .receive 1 (msgB 0 0x61 false false) :: [] ∧
    claim ⟨1, true, false, 8, 0xFEE12340, 0x80⟩ base = .instr (.ipiSt8 1 0xFEE12340 0x80) ∧
    base.agenda = [] ∧ decodeAt base.plat [1] = .error .wrongLength :=
  ⟨by decide, by decide, by decide, rfl, rfl, by decide, rfl, rfl⟩

theorem platform_wf : base.plat.Wf :=
  ⟨by decide, by decide, by decide, by decide, by decide, by decide, by decide, default_distinct⟩

/-- The first and last address of the delivery area and of the upper 1 MB, and the XTP and INTA bytes. -/
theorem witness_PibAddressMap : base.plat.Wf ∧ base.plat.pibBase.toNat = 0xFEE00000 ∧
    (0xFEE00000#64).toNat % 8 = 0 ∧ (0xFEEFFFF8#64).toNat % 8 = 0 ∧
    (0xFEEFFFFF#64).toNat < base.plat.pibBase.toNat + 0x100000 ∧
    base.plat.pibBase.toNat + 0x100000 ≤ (0xFEF00000#64).toNat ∧
    (0xFEFFFFFF#64).toNat < base.plat.pibBase.toNat + 0x200000 ∧
    (0xFEFE0008#64).toNat = base.plat.pibBase.toNat + base.plat.xtpOffset ∧
    (0xFEFE0000#64).toNat = base.plat.pibBase.toNat + base.plat.intaOffset := ⟨platform_wf, by decide⟩

theorem one_unit : ∀ (k : Nat) (V : IoUnit), base.units[k]? = some V → V.claims 0xFEC00010 = true → k = 0 := by
  intro k V h _
  cases k with
  | zero => rfl
  | succ k => cases h

/-- The offsets of R87, one beside them, and the indexes at the edges: entries 0 and 23 of 24, then 24. -/
theorem witness_IoxAddressMap : base.units[0]? = some unitA ∧ Running base 1 procB ∧
    (∀ (k : Nat) (V : IoUnit), base.units[k]? = some V → V.claims (0xFEC00010#64).toNat = true → k = 0) ∧
    pibOffset base.plat 0xFEC00000 = none ∧ pibOffset base.plat 0xFEC000FC = none ∧
    (0xFEC00000#64).toNat = unitA.base.toNat ∧ (0xFEC00010#64).toNat = unitA.base.toNat + 0x10 ∧
    (0xFEC00020#64).toNat = unitA.base.toNat + 0x20 ∧ (0xFEC00040#64).toNat = unitA.base.toNat + 0x40 ∧
    (0xFEC000FC#64).toNat < unitA.base.toNat + 256 ∧ (0xFEC000FC#64).toNat < 2 ^ 63 ∧
    2 ^ 63 ≤ (0x8000000000000000#64).toNat ∧ unitA.entries.length = 24 ∧
    (0x10#8).toNat = 0x10 + 2 * 0 ∧ (0x3E#8).toNat = 0x10 + 2 * 23 ∧ (0x3F#8).toNat = 0x11 + 2 * 23 ∧
    (∀ k, k < 24 → (0x40#8).toNat ≠ 0x10 + 2 * k ∧ (0x40#8).toNat ≠ 0x11 + 2 * k) ∧
    (∀ k, k < 24 → (0x0F#8).toNat ≠ 0x10 + 2 * k ∧ (0x0F#8).toNat ≠ 0x11 + 2 * k) :=
  ⟨rfl, running_base, one_unit, by decide⟩

theorem witness_LidReadAndWrite : Running base 1 procB ∧ (0xFFFF0000#64).extractLsb' 0 16 = 0 :=
  ⟨running_base, by decide⟩

theorem witness_IrrReads : Running (sys (procV [0x10, 0x3F, 0x40, 0xFF] [] 0 false false false) unitA) 1
    (procV [0x10, 0x3F, 0x40, 0xFF] [] 0 false false false) := running_sys _ _ rfl

theorem witness_ReadOnlyWritesRaise : Running base 1 procB := running_base

theorem witness_ReservedBitsRaise : Running base 1 procB ∧ (0x8000#64).getLsbD 15 = true ∧
    (0x1#64).getLsbD 0 = true ∧ (0x100#64).getLsbD 8 = true ∧ (0x20000#64).getLsbD 17 = true ∧
    (0x8000000000000000#64).getLsbD 63 = true := ⟨running_base, by decide⟩

/-- Nothing deliverable; then NMI, ExtINT, the least and the greatest vector. -/
theorem witness_IvrRead : Running base 1 procB ∧ procB.hpu = none ∧
    (procV [] [] 0 false true true).hpu = some 2 ∧ (procV [0xFF] [] 0 false false true).hpu = some 0 ∧
    (procV [0x10] [] 0 false false false).hpu = some 0x10 ∧ (procV [0xFF] [] 0 false false false).hpu = some 0xFF :=
  ⟨running_base, by decide⟩

theorem witness_EoiWriteAndRead : Running base 1 procB := running_base

theorem witness_TprReadAndWrite : Running base 1 procB ∧ (0x100FF#64).extractLsb' 8 8 = 0 ∧
    (0x100FF#64).extractLsb' 17 47 = 0 := ⟨running_base, by decide⟩

theorem witness_LvrReadAndWrite : Running base 1 procB ∧ (0x1000F#64).extractLsb' 8 8 = 0 ∧
    (0x1000F#64).extractLsb' 17 47 = 0 := ⟨running_base, by decide⟩

theorem witness_LrrReadAndWrite : Running base 1 procB ∧ (0x4000#64).getLsbD 14 = true ∧
    (0x0800#64).extractLsb' 11 2 ≠ 0 ∧ (0x100#64).getLsbD 14 = false ∧ (0x100#64).extractLsb' 11 2 = 0 ∧
    (0x100#64).extractLsb' 8 3 ∈ [0b001#3, 0b011#3, 0b110#3] ∧
    (0xFFFFFFFFFFFFA7FF#64).getLsbD 14 = false ∧ (0xFFFFFFFFFFFFA7FF#64).extractLsb' 11 2 = 0 ∧
    (0xFFFFFFFFFFFFA7FF#64).extractLsb' 8 3 ∉ [0b001#3, 0b011#3, 0b110#3] := ⟨running_base, by decide⟩

/-- One queued EOI too many; as many as vectors in service; fewer. -/
theorem witness_SerializeSettlesAll :
    Running (sys { procV [] [0x50] 0 false false false with eoiq := 2 } unitA) 1
      { procV [] [0x50] 0 false false false with eoiq := 2 } ∧
    ({ procV [] [0x50] 0 false false false with eoiq := 2 } : Proc).inService.length < 2 ∧
    2 ≤ ({ procV [] [0x50, 2] 0 false false false with eoiq := 2 } : Proc).inService.length ∧
    1 ≤ ({ procV [] [0x50, 0xFF] 0 false false false with eoiq := 1 } : Proc).inService.length :=
  ⟨running_sys _ _ rfl, by decide⟩

theorem witness_PsrBitWrites : Running base 1 procB := running_base

theorem witness_ReturnRestoresPsr : Running base 1 procB := running_base

/-- The first and the last address; a reserved bit; an undefined mode; a destination that one processor
holds, and one that none holds. -/
theorem witness_IpiStore : Running base 1 procB ∧
    base.plat.pibBase.toNat ≤ (0xFEE00000#64).toNat ∧
    (0xFEEFFFF8#64).toNat < base.plat.pibBase.toNat + 0x100000 ∧ (0xFEEFFFF8#64).extractLsb' 0 3 = 0 ∧
    (0x8080#64).extractLsb' 11 53 ≠ 0 ∧ (0x180#64).extractLsb' 11 53 = 0 ∧
    (0x180#64).extractLsb' 8 3 ∈ [0b001#3, 0b011#3, 0b110#3] ∧ (0x7FF#64).extractLsb' 11 53 = 0 ∧
    (0x7FF#64).extractLsb' 8 3 ∉ [0b001#3, 0b011#3, 0b110#3] ∧
    base.holders (msgB 7 0xFF false false) = [procB] ∧
    base.holders { msgB 7 0xFF false false with id := 0xFF } = [] := ⟨running_base, by decide⟩

theorem arrives_procB (m : Msg) (h : m.h = false) (hm : (sys procB unitA).holders m = [procB]) :
    Arrives (arrived procB m) 1 procB m := ⟨rfl, List.mem_cons_self, h, hm⟩

theorem witness_AlwaysRefused : Running base 1 procB ∧
    Selects (sys procB { unitA with sel := 1 }) 0 { unitA with sel := 1 } 0x01 ∧
    Selects (sys procB { unitA with sel := 0x0F }) 0 { unitA with sel := 0x0F } (0x0F#8).toNat ∧
    base.units[0]? = some unitA ∧ unitA.hasIrqAssert = true ∧
    ({ unitA with hasIrqAssert := false } : IoUnit).hasIrqAssert = false ∧
    Arrives (arrived procB (msgB 1 0x61 false false)) 1 procB ((msgB 1 0x61 false false).body.msg 0b001#3) ∧
    Arrives (arrived procB (msgB 3 0x61 false false)) 1 procB ((msgB 3 0x61 false false).body.msg 0b011#3) ∧
    Arrives (arrived procB (msgB 6 0x61 false false)) 1 procB ((msgB 6 0x61 false false).body.msg 0b110#3) :=
  ⟨running_base, ⟨rfl, rfl⟩, ⟨rfl, rfl⟩, rfl, rfl, rfl, arrives_procB _ rfl (by decide),
    arrives_procB _ rfl (by decide), arrives_procB _ rfl (by decide)⟩

theorem witness_XtpStoreAndIntaLoad : Running base 1 procB ∧
    pibOffset base.plat 0xFEFE0008 = some base.plat.xtpOffset ∧
    pibOffset base.plat 0xFEFE0000 = some base.plat.intaOffset ∧ base.plat.hasIpiRedirect = true ∧
    base.plat.has8259 = true := ⟨running_base, by decide⟩

theorem witness_SelectRegister : Running base 1 procB ∧ base.units[0]? = some unitA ∧
    (0xFF#32).extractLsb' 8 24 = 0 ∧ (0x100#32).extractLsb' 8 24 ≠ 0 := ⟨running_base, rfl, by decide⟩

theorem witness_VersionAndRteLowRead : Running base 1 procB ∧
    Selects (sys procB { unitA with sel := 1 }) 0 { unitA with sel := 1 } 0x01 ∧
    Selects (sys procB { unitA with sel := 0x10 }) 0 { unitA with sel := 0x10 } (0x10 + 2 * 0) ∧
    Selects (sys procB { unitA with sel := 0x3E }) 0 { unitA with sel := 0x3E } (0x10 + 2 * 23) ∧
    unitA.entries[0]? = some Entry.reset ∧ unitA.entries[23]? = some Entry.reset :=
  ⟨running_base, ⟨rfl, rfl⟩, ⟨rfl, rfl⟩, ⟨rfl, rfl⟩, rfl, rfl⟩

theorem witness_RteHighReadAndStore : Running base 1 procB ∧
    Selects (sys procB { unitA with sel := 0x11 }) 0 { unitA with sel := 0x11 } (0x11 + 2 * 0) ∧
    Selects (sys procB { unitA with sel := 0x3F }) 0 { unitA with sel := 0x3F } (0x11 + 2 * 23) ∧
    unitA.entries[0]? = some Entry.reset ∧ unitA.entries[23]? = some Entry.reset ∧
    (0xFFFF0000#32).extractLsb' 0 16 = 0 ∧ (0x1#32).extractLsb' 0 16 ≠ 0 :=
  ⟨running_base, ⟨rfl, rfl⟩, ⟨rfl, rfl⟩, rfl, rfl, by decide⟩

/-- Refused data; masking of an entry with its delivery status set; unmasking of an edge entry with an
active pin, allowed and not; a plain store. -/
theorem witness_RteLowStore :
    Selects (sys procB { unitE (entryV 0x61 0 false true) with sel := 0x16 }) 0
      { unitE (entryV 0x61 0 false true) with sel := 0x16 } (0x10 + 2 * 3) ∧
    (unitE (entryV 0x61 0 false true)).entries[3]? = some (entryV 0x61 0 false true) ∧
    (0x20000#32).extractLsb' 17 15 ≠ 0 ∧ (0x4000#32).getLsbD 14 = true ∧ (0x800#32).getLsbD 11 = true ∧
    (0x300#32).extractLsb' 8 3 ∈ [0b011#3, 0b110#3] ∧ (0x1A7FF#32).extractLsb' 17 15 = 0 ∧
    (0x1A7FF#32).getLsbD 14 = false ∧ (0x1A7FF#32).getLsbD 11 = false ∧
    (0x1A7FF#32).extractLsb' 8 3 ∉ [0b011#3, 0b110#3] ∧ (0x1A7FF#32).getLsbD 16 = true ∧
    ({ entryV 0x61 0 false false with s := true } : Entry).s = true ∧
    ({ entryV 0x61 0 false false with pin := ⟨true, true⟩ } : Entry).teff = false ∧
    ({ entryV 0x61 0 false false with pin := ⟨true, true⟩ } : Entry).active = true ∧
    (entryV 0x10 0 false false).fireCheck = none ∧
    (entryV 0x0F 0 false false).fireCheck = some .intReservedVector := ⟨⟨rfl, rfl⟩, by decide⟩

theorem witness_IoEoiReleases : Running base 1 procB ∧ base.units[0]? = some unitA ∧ unitA.hasIoEoi = true ∧
    ({ unitA with hasIoEoi := false } : IoUnit).hasIoEoi = false ∧ (0x100#32).extractLsb' 8 24 ≠ 0 ∧
    (0xFF#32).extractLsb' 8 24 = 0 := ⟨running_base, rfl, by decide⟩

/-- Vectors 0x10 and 0x0F, PMI vectors 15 and 16. -/
theorem witness_ReceiveIntAndPmi :
    Arrives (arrived procB (msgB 0 0x10 false false)) 1 procB ((msgB 0 0x10 false false).body.msg DMode.int) ∧
    Arrives (arrived procB (msgB 0 0x0F false false)) 1 procB ((msgB 0 0x0F false false).body.msg DMode.int) ∧
    Arrives (arrived procB (msgB 2 15 false false)) 1 procB ((msgB 2 15 false false).body.msg DMode.pmi) ∧
    Arrives (arrived procB (msgB 2 16 false false)) 1 procB ((msgB 2 16 false false).body.msg DMode.pmi) :=
  ⟨arrives_procB _ rfl (by decide), arrives_procB _ rfl (by decide), arrives_procB _ rfl (by decide),
    arrives_procB _ rfl (by decide)⟩

theorem witness_ReceiveNmiExtIntInit :
    Arrives (arrived procB (msgB 4 0xFF false true)) 1 procB ((msgB 4 0xFF false true).body.msg DMode.nmi) ∧
    Arrives (arrived procB (msgB 7 0xFF false true)) 1 procB ((msgB 7 0xFF false true).body.msg DMode.extInt) ∧
    Arrives (arrived procB (msgB 5 0xFF false true)) 1 procB ((msgB 5 0xFF false true).body.msg DMode.init) :=
  ⟨arrives_procB _ rfl (by decide), arrives_procB _ rfl (by decide), arrives_procB _ rfl (by decide)⟩

/-- Two processors with LID 12:34, and two with distinct ones. -/
theorem witness_DuplicateIdentifiers :
    ({ base with procs := [procB, procB] } : State).procs[1]? = some procB ∧
    Running { base with procs := [procB, procB] } 1 procB ∧
    procB ∈ ({ base with procs := [procB, procB] } : State).holders (msgB 0 0x61 false false) ∧
    2 ≤ (({ base with procs := [procB, procB] } : State).holders (msgB 0 0x61 false false)).length ∧
    2 ≤ (({ base with procs := [procB, procB] } : State).holders (ipiMsg 0xFEE12340 0x61)).length ∧
    (∀ P ∈ ({ base with procs := [procB, procB] } : State).procs, P.bus = 7 →
      P.matches (msgB 0 0x61 false false) = false) ∧
    ({ base with procs := [procB, procB] } : State).waitsForData 0 = false ∧ base.UniqueLids := by
  refine ⟨rfl, ⟨rfl, rfl⟩, by decide, by decide, by decide, by decide, rfl,
    List.Pairwise.cons ?_ (List.Pairwise.cons ?_ List.Pairwise.nil)⟩
  · intro Q hQ; rw [List.mem_singleton.mp hQ]; decide
  · intro Q hQ; cases hQ

theorem witness_AcceptInterrupt :
    ({ procV [0x10] [] 0 false false false with psrI := Ser.same true, psrIc := Ser.same true } : Proc).hpu ≠ none ∧
    base.procs[1]? = some procB ∧ procB.psrI.eff = false ∧ procB.hpu = none :=
  ⟨by decide, rfl, rfl, by decide⟩

theorem witness_TakePmiAndInit :
    Running (sys { procB with pmiP := bits 16 [0, 15], initP := true } unitA) 1
      { procB with pmiP := bits 16 [0, 15], initP := true } ∧
    (bits 16 [0, 15]).getLsbD (0#4).toNat = true ∧ (bits 16 [0, 15]).getLsbD (15#4).toNat = true :=
  ⟨running_sys _ _ rfl, by decide⟩

theorem witness_EndedFlowRunsNothing : (Instr.rfi 1).issuer = some 1 ∧
    (sys { procB with flow := .initialized } unitA).procs[1]? = some { procB with flow := .initialized } ∧
    ({ procB with flow := .initialized } : Proc).flow ≠ .running ∧
    ({ procB with flow := .faulted .generalException } : Proc).flow ≠ .running := ⟨rfl, rfl, by decide⟩

/-- The vector of greatest priority pending, unmasked and masked. -/
theorem witness_HighestPendingUnmasked : reportable 0x51 ∧
    (procV [0x51, 0x41] [] 5 false false false).pending 0x51 = true ∧
    (∀ w, reportable w → (procV [0x51, 0x41] [] 5 false false false).pending w = true → prio w ≤ prio 0x51) ∧
    (procV [0x51, 0x41] [] 5 false false false).unmasked 0x51 = false ∧
    (procV [0x51, 0x41] [] 4 false false false).unmasked 0x51 = true := by
  have h : ∀ w, w < 256 → (procV [0x51, 0x41] [] 5 false false false).pending w = true → prio w ≤ prio 0x51 := by
    decide
  refine ⟨by decide, by decide, fun w hw => h w ?_, by decide, by decide⟩
  rcases hw with rfl | rfl | ⟨_, h⟩ <;> omega

theorem witness_ReportedOutranksService : (procV [0x51] [0x41] 0 false false false).hpu = some 0x51 ∧
    reportable 0x41 ∧ (procV [0x51] [0x41] 0 false false false).insvc.getLsbD 0x41 = true ∧
    (procV [] [0xFF] 0 false false true).hpu = some 0 ∧ (bits 256 [0xFF]).getLsbD 0xFF = true := by decide

theorem witness_Masking : (procV [] [] 0 false false false).unmasked 0x10 = true ∧
    (procV [] [] 1 false false false).unmasked 0x1F = false ∧ (procV [] [] 0xE false false false).unmasked 0xFF = true ∧
    (procV [] [0xFF] 0 false false false).unmasked 0 = true ∧ (procV [] [0] 0 true false false).unmasked 2 = true := by
  decide

theorem witness_SettleStep : base.procs[1]? = some procB ∧ procB.eoiq = 0 ∧
    ({ procB with eoiq := 1 } : Proc).topInsvc = none ∧
    ({ procV [] [0x50, 2] 0 false false false with eoiq := 1 } : Proc).topInsvc = some 2 :=
  ⟨rfl, rfl, by decide, by decide⟩

theorem witness_LocalEvents : base.procs[1]? = some procB ∧ procB.itv.eff.m = false ∧
    procB.itv.eff.vector.toNat < 16 ∧ 16 ≤ ((Ser.same ⟨0x10, false⟩ : Ser Lvr).eff.vector).toNat ∧
    (Ser.same ⟨0x10, true⟩ : Ser Lvr).eff.m = true := ⟨rfl, by decide⟩

theorem witness_FiringCombinations : (entryV 0x10 1 true false).fireCheck = none ∧
    (entryV 0x0F 1 true false).fireCheck = some .intReservedVector ∧
    (entryV 0 7 false false).fireCheck = none ∧ (entryV 15 2 false false).fireCheck = none ∧
    (entryV 16 2 false false).fireCheck = some .pmiVectorAbove15 ∧
    (entryV 0 2 true false).fireCheck = some .pmiLevel ∧ (entryV 0 5 true false).fireCheck = some .initLevel ∧
    (entryV 0 4 true false).fireCheck = none := by decide

theorem hasEntry_sys (E : Entry) : HasEntry (sys procB (unitE E)) 0 3 (unitE E) E := ⟨rfl, rfl⟩

/-- Masked; edge without an edge; a new edge, allowed and not; an NMI entry with a level trigger bit. -/
theorem witness_SampleEdgePin :
    HasEntry (sys procB (unitE { entryV 0x10 0 false false with pin := ⟨true, false⟩ })) 0 3
      (unitE { entryV 0x10 0 false false with pin := ⟨true, false⟩ })
      { entryV 0x10 0 false false with pin := ⟨true, false⟩ } ∧
    (entryV 0x10 0 false true).m = true ∧ (entryV 0x10 0 false false).pin.level = false ∧
    (entryV 0x10 0 false false).fireCheck = none ∧
    (entryV 0x0F 0 false false).fireCheck = some .intReservedVector ∧ (entryV 0 4 true false).dm = 0b100#3 :=
  ⟨hasEntry_sys _, by decide⟩

theorem witness_SampleLevelPin :
    HasEntry (sys procB (unitE { entryV 0x61 0 true false with pin := ⟨true, false⟩ })) 0 3
      (unitE { entryV 0x61 0 true false with pin := ⟨true, false⟩ })
      { entryV 0x61 0 true false with pin := ⟨true, false⟩ } ∧
    (entryV 0x61 0 true false).t = true ∧ (entryV 0x61 0 true false).dm ≠ 0b100#3 ∧
    (entryV 0x61 0 true false).fireCheck = none ∧
    (entryV 0x61 7 true false).fireCheck = some .extIntLevel := ⟨hasEntry_sys _, by decide⟩

theorem witness_SendStep : HasEntry (sys procB (unitE { entryV 0x61 1 true false with s := true })) 0 3
      (unitE { entryV 0x61 1 true false with s := true }) { entryV 0x61 1 true false with s := true } ∧
    HasEntry base 0 3 unitA Entry.reset ∧ Entry.reset.m = true := ⟨hasEntry_sys _, ⟨rfl, rfl⟩, rfl⟩

theorem witness_BridgePassThrough :
    msgB 0 0x61 true true ∈ ({ base with ioBus := [msgB 0 0x61 true true] } : State).ioBus ∧
    ({ base with ioBus := [msgB 0 0x61 true true], stores := [⟨0x1000, 8, 5, some 1⟩] } : State).waitsForData 0 =
      false ∧
    base.plat.hasIoRedirect = false ∧ base.holders (msgB 0 0x61 true true) = [procB] ∧
    base.holders { msgB 0 0x61 false true with id := 0x55 } = [] := by decide

theorem witness_BridgeRedirection :
    msgB 0 0x61 true true ∈ ({ base with ioBus := [msgB 0 0x61 true true], plat :=
      { base.plat with hasIoRedirect := true } } : State).ioBus ∧ base.waitsForData 0 = false ∧
    (msgB 0 0x61 true true).h = true ∧ ({ base.plat with hasIoRedirect := true } : Platform).hasIoRedirect = true ∧
    base.holders (msgB 0 0x61 true true) = [procB] ∧
    (base.holders { msgB 0 0x61 true true with id := 0x55 }).length ≤ 1 := by decide

theorem witness_HintedIpiAndDrop :
    (0, msgB 0 0x61 true false) ∈ ({ base with sysBus := [(0, msgB 0 0x61 true false)] } : State).sysBus ∧
    base.plat.hasIpiRedirect = true ∧ ({ base.plat with hasIpiRedirect := false } : Platform).hasIpiRedirect = false ∧
    (msgB 4 0 true false).dm ≠ 0b000#3 ∧ (base.holders (msgB 0 0x61 true false)).length ≤ 1 ∧
    (base.holders { msgB 0 0x61 false false with id := 0x55 }).length ≤ 1 ∧
    (∀ P ∈ base.procs, P.bus = 0 → P.matches { msgB 0 0x61 false false with id := 0x55 } = false) := by decide

/-- Without the pins; masked; no edge; an edge in each mode, at the edges of the vectors' ranges. -/
theorem witness_SampleLintEdge : base.procs[0]? = some procA ∧ procA.hasLint = false ∧
    base.procs[1]? = some procB ∧ procB.hasLint = true ∧ procB.lint .lint0 = ⟨false, false⟩ ∧
    ({ procB with lint0 := ⟨true, false⟩ } : Proc).lint .lint0 = ⟨true, !true⟩ ∧
    ({ procB with lrr0 := Ser.same ⟨0x10, 0, false, false, false⟩ } : Proc).lrrEff .lint0 =
      ⟨0x10, 0b000#3, false, false, false⟩ ∧
    ({ procB with lrr1 := Ser.same ⟨0x0F, 2, false, false, false⟩ } : Proc).lrrEff .lint1 =
      ⟨0x0F, 0b010#3, false, false, false⟩ ∧
    ({ procB with lrr1 := Ser.same ⟨0, 6, false, false, false⟩ } : Proc).lrrEff .lint1 =
      ⟨0, 0b110#3, false, false, false⟩ ∧
    ({ procB with lrr1 := Ser.same ⟨0, 4, false, true, false⟩ } : Proc).lrrEff .lint1 =
      ⟨0, 0b100#3, false, true, false⟩ := by decide

theorem witness_SampleLintLevel :
    (sys { procB with lrr1 := Ser.same ⟨0x10, 0, false, true, false⟩, lint1 := ⟨true, false⟩ } unitA).procs[1]? =
      some { procB with lrr1 := Ser.same ⟨0x10, 0, false, true, false⟩, lint1 := ⟨true, false⟩ } ∧
    ({ procB with lrr1 := Ser.same ⟨0x10, 0, false, true, false⟩ } : Proc).lrrEff .lint1 =
      ⟨0x10, 0b000#3, false, true, false⟩ ∧
    ({ procB with lrr1 := Ser.same ⟨0x0F, 0, false, true, false⟩ } : Proc).lrrEff .lint1 =
      ⟨0x0F, 0b000#3, false, true, false⟩ ∧
    ({ procB with lint1 := ⟨true, true⟩ } : Proc).lint .lint1 = ⟨!false, !false⟩ ∧
    ({ procB with lrr1 := Ser.same ⟨0x10, 7, false, true, false⟩ } : Proc).lrrEff .lint1 =
      ⟨0x10, 0b111#3, false, true, false⟩ ∧ procB.hasLint = true := by decide

/-- Dedicated pins low and high; a LINT pin and an I/O xAPIC pin sampled and not sampled since a change. -/
theorem witness_DrivenPins : base.procs[1]? = some procB ∧ procB.nmiPin = false ∧ procB.pmiPin = false ∧
    procB.initPin = false ∧ procA.hasLint = false ∧ procB.hasLint = true ∧
    procB.lint .lint0 = ⟨false, false⟩ ∧ ({ procB with lint0 := ⟨true, false⟩ } : Proc).lint .lint0 = ⟨!false, false⟩ ∧
    HasEntry base 0 3 unitA Entry.reset ∧ Entry.reset.pin = ⟨!true, !true⟩ ∧
    HasEntry (sys procB (unitE { entryV 0x61 0 true false with pin := ⟨true, false⟩ })) 0 3
      (unitE { entryV 0x61 0 true false with pin := ⟨true, false⟩ })
      { entryV 0x61 0 true false with pin := ⟨true, false⟩ } :=
  ⟨rfl, rfl, rfl, rfl, rfl, rfl, rfl, rfl, ⟨rfl, rfl⟩, rfl, hasEntry_sys _⟩

/-- The first and last message address; an undefined mode; the upper 1 MB; a misaligned write; a write to
a unit; data at 0, below the PIB and at the last word of the I/O bus; first, a message with data before it. -/
theorem witness_IoBusTraffic :
    (∃ x ∈ [(⟨0x1000, 8, 5, some 1⟩ : PendingStore)], ∃ k, x.msgsBefore = some k ∧
      k ≤ [msgB 4 0 false false, msgB 0 0x61 false true].idxOf (msgB 0 0x61 false true)) ∧
    base.plat.Wf ∧ base.plat.pibBase.toNat ≤ (0xFEE00000#32).toNat ∧
    (0xFEEFFFF8#32).toNat < base.plat.pibBase.toNat + 0x100000 ∧ (0xFEEFFFF8#32).toNat % 8 = 0 ∧
    (0x8161#32).extractLsb' 8 3 ∉ [0b011#3, 0b110#3] ∧ (0x361#32).extractLsb' 8 3 ∈ [0b011#3, 0b110#3] ∧
    base.plat.pibBase.toNat + 0x100000 ≤ (0xFEF00000#32).toNat ∧
    (0xFEFFFFFF#32).toNat < base.plat.pibBase.toNat + 0x200000 ∧
    (0xFEDFFFFF#32).toNat < base.plat.pibBase.toNat ∧ (0xFEDFFFFF#32).toNat % 4 ≠ 0 ∧
    (0xFEC000FC#32).toNat % 4 = 0 ∧ base.deviceByte ((0xFEC000FC#32).toNat + 0) = true ∧
    (∀ k, k < 4 → base.deviceByte ((0#32).toNat + k) = false) ∧
    (∀ k, k < 4 → base.deviceByte ((0xFEDFFFFC#32).toNat + k) = false) ∧
    (∀ k, k < 4 → base.deviceByte ((0xFFFFFFFC#32).toNat + k) = false) ∧
    (msgB 1 0 false false).dm ∉ [0b011#3, 0b110#3] ∧ (msgB 6 0 false false).dm ∈ [0b011#3, 0b110#3] ∧
    (1 ∈ [1, 2, 4, 8] ∧ (0xFEDFFFFF#64).toNat % 1 = 0 ∧ base.deviceByte ((0xFEDFFFFF#64).toNat + 0) = false) ∧
    (8 ∈ [1, 2, 4, 8] ∧ (0x7FFFFFFFFFFFFFF8#64).toNat % 8 = 0 ∧ (0x7FFFFFFFFFFFFFF8#64).toNat < 2 ^ 63 ∧
      ∀ k, k < 8 → base.deviceByte ((0x7FFFFFFFFFFFFFF8#64).toNat + k) = false) ∧
    ((0xFEC000F8#64).toNat % 8 = 0 ∧ base.deviceByte ((0xFEC000F8#64).toNat + 7) = true) ∧
    (¬ (8 ∈ [1, 2, 4, 8] ∧ (0xFEDFFFFC#64).toNat % 8 = 0) ∧ 2 ^ 63 ≤ (0x8000000000000000#64).toNat) ∧
    ¬ (0 ∈ [1, 2, 4, 8] ∧ (0#64).toNat % 0 = 0) :=
  ⟨⟨_, List.mem_singleton_self _, 1, rfl, by decide⟩, platform_wf, by decide⟩

/-- The last word of memory; a store and a load on their way for the same bytes; bytes seen in memory and in
the store, at the edges of the store. -/
theorem witness_MemoryReadAfterWrite : Running base 1 procB ∧ 8 ∈ [1, 2, 4, 8] ∧
    (0x7FFFFFFFFFFFFFF8#64).toNat % 8 = 0 ∧ (0x7FFFFFFFFFFFFFF8#64).toNat < 2 ^ 63 ∧
    (∀ k, k < 8 → base.deviceByte ((0x7FFFFFFFFFFFFFF8#64).toNat + k) = false) ∧
    ([⟨0x1000, 2, 0xABCD, none⟩] : List PendingStore)[0]? = some ⟨0x1000, 2, 0xABCD, none⟩ ∧
    ([⟨1, 0x1000, 2⟩] : List PendingLoad)[0]? = some ⟨1, 0x1000, 2⟩ ∧ base.procs[1]? = some procB ∧
    (∀ j, j < 2 → ({ base with mem := [(0x1000, 1)], stores := [⟨0x1000, 2, 0xABCD, none⟩] } : State).seenByte
      (0x1000 + j) (([none, some 0] : List (Option Nat))[j]?.getD none) = some ((0xAB01#64).extractLsb' (8 * j) 8)) ∧
    ({ base with stores := [⟨0x1000, 2, 0xABCD, none⟩] } : State).seenByte 0x1001 (some 0) = some 0xAB ∧
    ({ base with stores := [⟨0x1000, 2, 0xABCD, none⟩] } : State).seenByte 0x1002 (some 0) = none :=
  ⟨running_base, by decide⟩

theorem procA_wf : procA.Wf := ⟨by decide, by decide, rfl, rfl, rfl, rfl⟩

theorem procB_wf : procB.Wf := ⟨by decide, by decide, rfl, rfl, rfl, rfl⟩

theorem unitA_wf : unitA.Wf := ⟨by decide, by decide, by decide, by decide, by decide⟩

theorem base_inv (l : List Move) : ({ base with agenda := l } : State).Inv where
  plat := platform_wf
  nproc := ⟨Nat.le_of_ble_eq_true rfl, Nat.le_of_ble_eq_true rfl⟩
  niox := Nat.le_of_ble_eq_true rfl
  bases := List.pairwise_singleton _ _
  procs := by
    intro P hP
    rcases List.mem_cons.mp hP with rfl | hP
    · exact procA_wf
    · rw [List.mem_singleton.mp hP]; exact procB_wf
  units := by intro U hU; rw [List.mem_singleton.mp hU]; exact unitA_wf
  ioBus := by intro m hm; cases hm
  sysBus := by intro m hm; cases hm
  mem := rfl
  outside := by intro c hc; cases hc
  stores := by intro x hx; cases hx
  loads := by intro x hx; cases hx

theorem witness_StepKeepsInvariant : (doing base (.op [0x42, 0x50, 2, 8, 1, 0])).Inv ∧
    ∃ s' P', step (doing base (.op [0x42, 0x50, 2, 8, 1, 0])) = .next s' ∧ s'.procs[1]? = some P' ∧
      P'.tpr.arch.mic = 5 := ⟨base_inv _, next_of_proc1 (by decide)⟩

/-- The identifiers of the default platform are pairwise distinct. -/
theorem default_lids : Config.defaultParams.procs.Pairwise fun P Q => P.lid0 ≠ Q.lid0 := by decide

theorem default_ok : Config.defaultParams.Ok where
  plat := platform_wf
  procs := by decide
  buses := by decide
  units := by decide
  bases := List.pairwise_singleton _ _
  inside := by decide
  entries := by decide

theorem witness_ResetMeetsInvariant : Config.defaultParams.Ok ∧
    Config.defaultParams.procs.Pairwise fun P Q => P.lid0 ≠ Q.lid0 := ⟨default_ok, default_lids⟩

theorem witness_ResetValues : ∃ U E P, U ∈ State.reset.units ∧ E ∈ U.entries ∧
    State.reset.procs[1]? = some P := ⟨_, Entry.reset, _, List.mem_cons_self, by decide, rfl⟩

/-- By an IVR read, and by the deassertion of a level LINT pin. -/
theorem witness_PendingBitCleared :
    (procV [0x41] [] 0 false false false).irr.getLsbD 0x41 = true ∧
    (∃ s' P', step (doing (sys (procV [0x41] [] 0 false false false) unitA) (.op [0x41, 0, 1, 8, 1, 0])) = .next s' ∧
      s'.procs[1]? = some P' ∧ P'.irr.getLsbD 0x41 = false) ∧
    (∃ s' P', step (doing (sys { procV [0x41] [] 0 false false false with
        lrr1 := Ser.same ⟨0x41, 0, false, true, false⟩, lint1 := ⟨false, true⟩ } unitA) (.sampleLint 1 .lint1)) =
        .next s' ∧ s'.procs[1]? = some P' ∧ P'.irr.getLsbD 0x41 = false) :=
  ⟨by decide, next_of_proc1 (by decide), next_of_proc1 (by decide)⟩

theorem witness_InServiceChanges :
    (∃ s' P', step (doing (sys (procV [0x41] [] 0 false false false) unitA) (.op [0x41, 0, 1, 8, 1, 0])) = .next s' ∧
      s'.procs[1]? = some P' ∧ P'.insvc.getLsbD 0x41 = true) ∧
    (∃ s' P', step (doing (sys { procV [] [0x41] 0 false false false with eoiq := 1 } unitA)
      (.op [0, 0, 4, 0, 1, 0])) = .next s' ∧ s'.procs[1]? = some P' ∧ P'.insvc.getLsbD 0x41 = false) ∧
    (∃ s' P', step (doing (sys { procV [] [0x41] 0 false false false with eoiq := 1 } unitA)
      (.settle 1 .eoi)) = .next s' ∧ s'.procs[1]? = some P' ∧ P'.insvc.getLsbD 0x41 = false) :=
  ⟨next_of_proc1 (by decide), next_of_proc1 (by decide), next_of_proc1 (by decide)⟩

theorem witness_AwaitChanges :
    HasEntry (doing (sys procB (unitE { entryV 0x61 0 true false with s := true })) (.send 0 3)) 0 3
      (unitE { entryV 0x61 0 true false with s := true }) { entryV 0x61 0 true false with s := true } ∧
    (∃ s' U' E', step (doing (sys procB (unitE { entryV 0x61 0 true false with s := true })) (.send 0 3)) =
      .next s' ∧ HasEntry s' 0 3 U' E' ∧ E'.await = true) ∧
    (∃ s' U' E', step (doing (sys procB (unitE { entryV 0x61 0 true false with await := true }))
      (.op [0x40, 0x61, 11, 4, 1, 0])) = .next s' ∧ HasEntry s' 0 3 U' E' ∧ E'.await = false) :=
  ⟨⟨rfl, rfl⟩, next_of_entry3 (by decide), next_of_entry3 (by decide)⟩

theorem witness_CollectionCleared :
    (∃ s' P', step (doing (sys { procV [0x41] [] 0 false false false with
      psrI := Ser.same true, psrIc := Ser.same true } unitA) (.accept 1)) = .next s' ∧ s'.procs[1]? = some P' ∧ P'.psrIc.arch = false) ∧
    (∃ s' P', step (doing (sys { procB with psrIc := Ser.same true } unitA) (.op [0, 0, 5, 0, 1, 0])) = .next s' ∧
      s'.procs[1]? = some P' ∧ P'.psrIc.arch = false) :=
  ⟨next_of_proc1 (by decide), next_of_proc1 (by decide)⟩

theorem witness_OperationsAreLocal : (Instr.ssmI 1).issuer = some 1 ∧ (0 : Nat) ≠ 1 ∧
    ∃ s' P', exec (.ssmI 1) base = .next s' ∧ s'.procs[1]? = some P' ∧ P'.psrI.arch = true :=
  ⟨rfl, by decide, next_of_proc1 (by decide)⟩

theorem witness_PlatformIsConstant : ∃ s', step (doing base (.op [0x00, 0x16, 11, 4, 1, 0])) = .next s' ∧
    s'.units.map IoUnit.sel = [0x16] := next_of_after (by decide)

/-- The first and the last byte of a store that lands; a store, a load and device data issued. -/
theorem witness_MemoryWriters :
    (∃ s', step (doing { base with stores := [⟨0x1000, 8, 0, none⟩] } (.land 0)) = .next s' ∧
      (s'.mem.readByte 0x1000, s'.mem.readByte 0x1007) = (some 0, some 0)) ∧
    base.mem.readByte 0x1000 ≠ some 0 ∧
    (∃ s', step (doing base (.access ⟨1, true, true, 8, 0x1000, 0⟩)) = .next s' ∧
      s'.stores = [⟨0x1000, 8, 0, none⟩]) ∧
    (∃ s', step (doing base (.access ⟨1, false, true, 8, 0x1000, 0⟩)) = .next s' ∧
      s'.loads = [⟨1, 0x1000, 8⟩]) ∧
    (∃ s', step (doing base (.ioBusWrite 0x1000 0xAB000000)) = .next s' ∧
      s'.stores = [⟨0x1000, 4, 0xAB000000, some 0⟩]) ∧
    (∃ s', step (doing base (.deviceData 0x1000 8 5)) = .next s' ∧
      s'.stores = [⟨0x1000, 8, 5, some 0⟩]) :=
  ⟨next_of_after (by decide), by decide, next_of_after (by decide), next_of_after (by decide),
    next_of_after (by decide), next_of_after (by decide)⟩

end Sys2Proof.Tests
end

section
/-! SUPPORT. What one step keeps, and the obligations of the step and of reset.

`State.Follows s s'` says that `s'` has the platform of `s` and meets the invariant if `s` does. It is
reflexive and transitive, each update of a field has one rule for it, and every operation and every move
is a composition of such updates. -/

namespace Sys2Proof.Machine

/-! ### The successor of a processor -/

/-- What R7 fixes of a processor. -/
def Proc.fixed (P : Proc) : Nat × Bool := (P.bus, P.hasLint)

/-- `P'` may stand where `P` stood: the platform's part is that of `P`, and it is well-formed if `P` is. -/
structure Proc.Follows (P P' : Proc) : Prop where
  fixed : P'.fixed = P.fixed
  wf : P.Wf → P'.Wf

theorem Proc.Follows.trans {P Q R : Proc} (h : P.Follows Q) (h' : Q.Follows R) : P.Follows R :=
  ⟨h'.fixed.trans h.fixed, fun hP => h'.wf (h.wf hP)⟩

theorem Proc.deliver_follows (P : Proc) (r : Word64) : P.Follows (P.deliver r) := ⟨rfl, id⟩

/-- A pending bit may always be cleared, and set from vector 16 up (R22). -/
theorem Proc.writeIrr_follows (P : Proc) (v : Nat) (b : Bool) (hv : b = true → 16 ≤ v) :
    P.Follows { P with irr := writeBit P.irr v b } where
  fixed := rfl
  wf := by
    rintro ⟨hirr, hrest⟩
    refine ⟨fun w hw => ?_, hrest⟩
    show (writeBit P.irr v b).getLsbD w = false
    rw [getLsbD_writeBit]
    split
    · cases b with
      | false => rfl
      | true => have := hv rfl; omega
    · exact hirr w hw

/-- A vector may go out of service, and into service if an IVR read can report it (R24). -/
theorem Proc.insvc_follows (P : Proc) (x : BitVec 256)
    (hx : ∀ v, x.getLsbD v = true → P.insvc.getLsbD v = true ∨ reportable v) :
    P.Follows { P with insvc := x } where
  fixed := rfl
  wf := by
    rintro ⟨hirr, hsvc, hlrr⟩
    refine ⟨hirr, fun v hv h0 h2 => ?_, hlrr⟩
    show x.getLsbD v = false
    rw [← Bool.not_eq_true]
    intro hxv
    rcases hx v hxv with h | h
    · rw [hsvc v hv h0 h2] at h; cases h
    · unfold reportable at h; omega

theorem Proc.markInService_follows (P : Proc) {v : Nat} (hv : reportable v) :
    P.Follows (P.markInService v) := by
  refine P.insvc_follows _ fun w hw => ?_
  rw [getLsbD_writeBit] at hw
  split at hw
  · exact .inr (by simp_all)
  · exact .inl hw

theorem Proc.clearPending_follows (P : Proc) (v : Nat) : P.Follows (P.clearPending v) := by
  unfold Proc.clearPending
  split
  · exact ⟨rfl, id⟩
  · split
    · exact ⟨rfl, id⟩
    · exact P.writeIrr_follows v false nofun

/-- What an IVR read puts in service is the highest-priority pending vector, which is reportable (R168). -/
theorem Proc.readIvr_follows (P : Proc) : P.Follows P.readIvr := by
  rcases readIvr_cases P with ⟨-, h⟩ | ⟨v, hv, h⟩ <;> rw [h]
  · exact P.deliver_follows _
  · exact ((P.clearPending_follows v).trans (Proc.markInService_follows _ (hpu_some hv).1)).trans
      (Proc.deliver_follows _ _)

theorem Proc.eoiEffect_follows {P P' : Proc} (h : P.eoiEffect = some P') : P.Follows P' := by
  obtain ⟨v, -, rfl⟩ := eoiEffect_some h
  refine P.insvc_follows _ fun w hw => ?_
  rw [getLsbD_writeBit] at hw
  split at hw
  · simp at hw
  · exact .inl hw

theorem Proc.settleAll_follows (P : Proc) : P.Follows P.settleAll where
  fixed := rfl
  wf := fun ⟨hirr, hsvc, h0, _, h1, _⟩ => ⟨hirr, hsvc, h0, h0, h1, h1⟩

theorem Proc.serialize_follows {P P' : Proc} (h : P.serialize = some P') : P.Follows P' := by
  obtain ⟨x, rfl, hx⟩ := serialize_some h
  have hsvc := P.settleAll.insvc_follows x fun v hv => .inl (hx v hv)
  exact (P.settleAll_follows.trans hsvc).trans ⟨rfl, id⟩

theorem Proc.writeLrr0_follows (P : Proc) {l : Lrr} (hl : dmUndefined l.dm = false) :
    P.Follows { P with lrr0 := P.lrr0.write l } where
  fixed := rfl
  wf := fun ⟨hirr, hsvc, _, he, h1⟩ => ⟨hirr, hsvc, hl, he, h1⟩

theorem Proc.writeLrr1_follows (P : Proc) {l : Lrr} (hl : dmUndefined l.dm = false) :
    P.Follows { P with lrr1 := P.lrr1.write l } where
  fixed := rfl
  wf := fun ⟨hirr, hsvc, h0, he, _, he1⟩ => ⟨hirr, hsvc, h0, he, hl, he1⟩

theorem Proc.settleLrr0_follows (P : Proc) : P.Follows { P with lrr0 := P.lrr0.settled } where
  fixed := rfl
  wf := fun ⟨hirr, hsvc, h0, _, h1⟩ => ⟨hirr, hsvc, h0, h0, h1⟩

theorem Proc.settleLrr1_follows (P : Proc) : P.Follows { P with lrr1 := P.lrr1.settled } where
  fixed := rfl
  wf := fun ⟨hirr, hsvc, h0, he, h1, _⟩ => ⟨hirr, hsvc, h0, he, h1, h1⟩

theorem Proc.pendInt_follows {v : Byte} {P P' : Proc} (h : P.pendInt v = .ok P') : P.Follows P' := by
  obtain ⟨hv, rfl⟩ := pendInt_ok h
  exact P.writeIrr_follows _ _ fun _ => hv

theorem Proc.pendPmi_follows {v : Byte} {P P' : Proc} (h : P.pendPmi v = .ok P') : P.Follows P' := by
  obtain ⟨-, rfl⟩ := pendPmi_ok h
  exact ⟨rfl, id⟩

theorem Proc.deliverLocal_follows {dm : DMode} {v : Byte} {P P' : Proc}
    (h : P.deliverLocal dm v = .ok P') : P.Follows P' := by
  rcases deliverLocal_ok h with ⟨-, hv, rfl⟩ | ⟨-, -, rfl⟩ | ⟨-, rfl⟩ | ⟨-, rfl⟩ | ⟨-, rfl⟩
  · exact P.writeIrr_follows _ _ fun _ => hv
  all_goals exact ⟨rfl, id⟩

theorem Proc.setLint_follows (P : Proc) (k : LintPin) (x : Pin) : P.Follows (P.setLint k x) := by
  cases k <;> exact ⟨rfl, id⟩

theorem Proc.driveDedicated_follows (P : Proc) (k : DedicatedPin) (level : Bool) :
    P.Follows (P.driveDedicated k level) := by
  cases k <;> exact ⟨rfl, id⟩

/-- A LINT pin delivers by R325, pends its vector or clears it (R326 to R328). -/
theorem Proc.sampleLint_follows {P P' : Proc} {L : Lrr} {was is free : Bool}
    (h : P.sampleLint L was is free = .ok P') : P.Follows P' := by
  have unchanged : P.Follows P := ⟨rfl, id⟩
  unfold Proc.sampleLint at h
  split at h
  case isTrue => cases h; exact unchanged
  split at h
  case isTrue =>
    split at h
    · exact Proc.deliverLocal_follows h
    · cases h; exact unchanged
  split at h
  case isTrue =>
    split at h
    · exact Proc.pendInt_follows h
    split at h
    · cases h; exact P.writeIrr_follows _ _ nofun
    split at h
    · exact Proc.pendInt_follows h
    · cases h; exact unchanged
  split at h
  · cases h
  · cases h; exact unchanged

/-! ### The successor of a unit -/

/-- What R7 fixes of a unit. -/
def IoUnit.fixed (U : IoUnit) : Word64 × Byte × Bool × Bool × Nat :=
  (U.base, U.version, U.hasIrqAssert, U.hasIoEoi, U.entries.length)

/-- `U'` may stand where `U` stood: the platform's part is that of `U`, and its entries have modes of
their list if those of `U` do. -/
structure IoUnit.Follows (U U' : IoUnit) : Prop where
  fixed : U'.fixed = U.fixed
  modes : (∀ E ∈ U.entries, dmUndefinedRte E.dm = false) → ∀ E ∈ U'.entries, dmUndefinedRte E.dm = false

theorem IoUnit.Follows.wf {U U' : IoUnit} (h : U.Follows U') (hU : U.Wf) : U'.Wf := by
  obtain ⟨hin, hone, hmax, hver, hdm⟩ := hU
  have hfixed := h.fixed
  simp only [IoUnit.fixed, Prod.mk.injEq] at hfixed
  obtain ⟨hbase, hversion, -, -, hlen⟩ := hfixed
  exact ⟨hbase ▸ hin, hlen ▸ hone, hlen ▸ hmax, hversion ▸ hver, h.modes hdm⟩

/-- One entry changes, and keeps a mode of its list. -/
theorem IoUnit.setEntry_follows {U : IoUnit} {n : Nat} {E E' : Entry} (hE : U.entries[n]? = some E)
    (hdm : dmUndefinedRte E.dm = false → dmUndefinedRte E'.dm = false) :
    U.Follows (U.setEntry n E') where
  fixed := by simp [IoUnit.fixed]
  modes := by
    intro hU F hF
    rcases List.mem_or_eq_of_mem_set hF with hF | rfl
    · exact hU F hF
    · exact hdm (hU E (List.mem_of_getElem? hE))

theorem Entry.ioEoi_dm (E : Entry) (v : Byte) : (E.ioEoi v).dm = E.dm := by
  unfold Entry.ioEoi
  split <;> rfl

theorem IoUnit.ioEoi_follows (U : IoUnit) (v : Byte) :
    U.Follows { U with entries := U.entries.map (Entry.ioEoi v) } where
  fixed := by simp [IoUnit.fixed]
  modes := by
    intro hU F hF
    obtain ⟨E, hE, rfl⟩ := List.mem_map.1 hF
    rw [Entry.ioEoi_dm]
    exact hU E hE

/-! ### States on one platform -/

/-- What R7 fixes is the same in both states. -/
structure State.SamePlatform (s s' : State) : Prop where
  plat : s'.plat = s.plat
  procs : s'.procs.map Proc.fixed = s.procs.map Proc.fixed
  units : s'.units.map IoUnit.fixed = s.units.map IoUnit.fixed

namespace State.SamePlatform

theorem trans {s t r : State} (h : s.SamePlatform t) (h' : t.SamePlatform r) : s.SamePlatform r :=
  ⟨h'.plat.trans h.plat, h'.procs.trans h.procs, h'.units.trans h.units⟩

theorem procs_length {s s' : State} (h : s.SamePlatform s') : s'.procs.length = s.procs.length := by
  simpa using congrArg List.length h.procs

theorem units_length {s s' : State} (h : s.SamePlatform s') : s'.units.length = s.units.length := by
  simpa using congrArg List.length h.units

theorem bases_map {s s' : State} (h : s.SamePlatform s') :
    s'.units.map IoUnit.base = s.units.map IoUnit.base := by
  simpa [Function.comp_def, IoUnit.fixed] using congrArg (List.map Prod.fst) h.units

/-- Devices claim the same addresses. -/
theorem deviceByte {s s' : State} (h : s.SamePlatform s') (a : Nat) :
    s'.deviceByte a = s.deviceByte a := by
  have hclaims : ∀ t : State, (t.units.any fun U => U.claims a) = (t.units.map IoUnit.base).any
      fun b => decide (b.toNat ≤ a) && decide (a < b.toNat + 256) := fun t => by
    rw [List.any_map]; rfl
  simp only [State.deviceByte, hclaims, h.bases_map, h.plat]

theorem deviceBytes {s s' : State} (h : s.SamePlatform s') (a n : Nat) :
    s'.deviceBytes a n = s.deviceBytes a n := by
  simp only [State.deviceBytes, h.deviceByte]

end State.SamePlatform

/-- Other processors and units on the same platform: that they are well-formed is all that is left to show. -/
theorem State.Inv.setAgents {s : State} {ps : List Proc} {us : List IoUnit} (h : s.Inv)
    (hp : s.SamePlatform { s with procs := ps, units := us }) (procs : ∀ P ∈ ps, P.Wf)
    (units : ∀ U ∈ us, U.Wf) : State.Inv { s with procs := ps, units := us } where
  plat := h.plat
  nproc := hp.procs_length ▸ h.nproc
  procs := procs
  niox := hp.units_length ▸ h.niox
  bases := by
    have hb := h.bases
    rw [← List.pairwise_map (f := IoUnit.base) (R := (· ≠ ·))] at hb ⊢
    exact hp.bases_map ▸ hb
  units := units
  ioBus := h.ioBus
  sysBus := h.sysBus
  mem := h.mem
  outside := by simpa only [hp.deviceByte] using h.outside
  stores := by simpa only [hp.deviceBytes] using h.stores
  loads := by simpa only [hp.deviceBytes, hp.procs_length] using h.loads

/-! ### The successor of a state -/

/-- `s'` is on the platform of `s`, and meets the invariant if `s` does. -/
structure State.Follows (s s' : State) : Prop where
  platform : s.SamePlatform s'
  inv : s.Inv → s'.Inv

/-- An element replaced by one that `f` does not tell from it. -/
theorem map_set_of_getElem? {α β : Type} {f : α → β} {l : List α} {i : Nat} {a b : α}
    (hi : l[i]? = some a) (hf : f b = f a) : (l.set i b).map f = l.map f := by
  obtain ⟨hlt, rfl⟩ := List.getElem?_eq_some_iff.1 hi
  rw [List.map_set, hf, ← List.map_set, List.set_getElem_self]

namespace State.Follows

theorem refl (s : State) : s.Follows s := ⟨⟨rfl, rfl, rfl⟩, id⟩

theorem trans {s t r : State} (h : s.Follows t) (h' : t.Follows r) : s.Follows r :=
  ⟨h.platform.trans h'.platform, fun hs => h'.inv (h.inv hs)⟩

/-- The agenda and the count of draws are free. -/
theorem bookkeeping (s : State) (d : Nat) (l : List Move) :
    s.Follows { s with draws := d, agenda := l } :=
  ⟨⟨rfl, rfl, rfl⟩, fun hs => { hs with }⟩

theorem tick {s t : State} (h : s.Follows t) : s.Follows t.tick := h.trans (bookkeeping t _ _)

theorem setProc {s : State} {p : Nat} {P P' : Proc} (hP : s.procs[p]? = some P) (h : P.Follows P') :
    s.Follows (s.setProc p P') := by
  have platform : s.SamePlatform (s.setProc p P') := ⟨rfl, map_set_of_getElem? hP h.fixed, rfl⟩
  refine ⟨platform, fun hs => hs.setAgents platform (fun Q hQ => ?_) hs.units⟩
  rcases List.mem_or_eq_of_mem_set hQ with hQ | rfl
  · exact hs.procs Q hQ
  · exact h.wf (hs.procs P (List.mem_of_getElem? hP))

theorem setUnit {s : State} {u : Nat} {U U' : IoUnit} (hU : s.units[u]? = some U) (h : U.Follows U') :
    s.Follows (s.setUnit u U') := by
  have platform : s.SamePlatform (s.setUnit u U') := ⟨rfl, rfl, map_set_of_getElem? hU h.fixed⟩
  refine ⟨platform, fun hs => hs.setAgents platform hs.procs fun V hV => ?_⟩
  rcases List.mem_or_eq_of_mem_set hV with hV | rfl
  · exact hs.units V hV
  · exact h.wf (hs.units U (List.mem_of_getElem? hU))

theorem setIoBus {s : State} {l : List Msg} (hl : s.Inv → ∀ m ∈ l, dmUndefined m.dm = false) :
    s.Follows { s with ioBus := l } :=
  ⟨⟨rfl, rfl, rfl⟩, fun hs => { hs with ioBus := hl hs }⟩

theorem setSysBus {s : State} {l : List (Nat × Msg)}
    (hl : s.Inv → ∀ x ∈ l, dmUndefined x.2.dm = false) : s.Follows { s with sysBus := l } :=
  ⟨⟨rfl, rfl, rfl⟩, fun hs => { hs with sysBus := hl hs }⟩

theorem setStores {s : State} {l : List PendingStore}
    (hl : s.Inv → ∀ x ∈ l, memoryForm x.addr x.width = true ∧ x.addr < 2 ^ 63 ∧
      s.deviceBytes x.addr x.width = false) : s.Follows { s with stores := l } :=
  ⟨⟨rfl, rfl, rfl⟩, fun hs => { hs with stores := hl hs }⟩

theorem setLoads {s : State} {l : List PendingLoad}
    (hl : s.Inv → ∀ x ∈ l, x.p < s.procs.length ∧ memoryForm x.addr x.width = true ∧
      x.addr < 2 ^ 63 ∧ s.deviceBytes x.addr x.width = false) : s.Follows { s with loads := l } :=
  ⟨⟨rfl, rfl, rfl⟩, fun hs => { hs with loads := hl hs }⟩

theorem setMem {s : State} {m : Memory}
    (hm : s.Inv → m.wf = true ∧ ∀ c ∈ m, c.1 < 2 ^ 63 ∧ s.deviceByte c.1 = false) :
    s.Follows { s with mem := m } :=
  ⟨⟨rfl, rfl, rfl⟩, fun hs => { hs with mem := (hm hs).1, outside := (hm hs).2 }⟩

theorem sendIo {s : State} {m : Msg} (hm : s.Inv → dmUndefined m.dm = false) :
    s.Follows (s.sendIo m) :=
  setIoBus fun hs => List.forall_mem_append.2 ⟨hs.ioBus, List.forall_mem_singleton.2 (hm hs)⟩

theorem sendSys {s : State} {b : Nat} {m : Msg} (hm : s.Inv → dmUndefined m.dm = false) :
    s.Follows (s.sendSys b m) :=
  setSysBus fun hs => List.forall_mem_append.2 ⟨hs.sysBus, List.forall_mem_singleton.2 (hm hs)⟩

theorem eraseSysBus (s : State) (x : Nat × Msg) : s.Follows { s with sysBus := s.sysBus.erase x } :=
  setSysBus fun hs y hy => hs.sysBus y (List.mem_of_mem_erase hy)

theorem addStore {s : State} {x : PendingStore} (hform : memoryForm x.addr x.width = true)
    (haddr : x.addr < 2 ^ 63) (hdev : s.deviceBytes x.addr x.width = false) :
    s.Follows { s with stores := s.stores ++ [x] } :=
  setStores fun hs =>
    List.forall_mem_append.2 ⟨hs.stores, List.forall_mem_singleton.2 ⟨hform, haddr, hdev⟩⟩

end State.Follows

/-! ### The shared operations -/

section shared

variable {s s' : State} {p : Nat}

/-- An operation that does nothing but update the processor that issues it. -/
theorem software_setProc_follows {f : Proc → Proc}
    (h : software p s (fun P => .next (s.setProc p (f P))) = .next s')
    (hf : ∀ P, Proc.Follows P (f P)) : s.Follows s' := by
  obtain ⟨P, hP, -, h⟩ := software_next h
  cases h
  exact .setProc hP (hf P)

theorem readReg_follows {f : Proc → Word64} (h : readReg p s f = .next s') : s.Follows s' := by
  obtain ⟨P, hP, -, rfl⟩ := readReg_next h
  exact .setProc hP (P.deliver_follows _)

theorem readRegDraw_follows {f : Proc → Word64 → Word64} (h : readRegDraw p s f = .next s') :
    s.Follows s' := by
  obtain ⟨P, hP, -, rfl⟩ := readRegDraw_next h
  exact .tick (.setProc hP (P.deliver_follows _))

theorem writeReg_follows {w r : Word64} {f : Proc → Proc} (h : writeReg p s w r f = .next s')
    (hf : ∀ P, Proc.Follows P (f P)) : s.Follows s' := by
  obtain ⟨P, hP, -, ⟨-, rfl⟩ | ⟨-, rfl⟩⟩ := writeReg_next h
  · exact .setProc hP (hf P)
  · exact .setProc hP ⟨rfl, id⟩

theorem writeReadOnly_follows (h : writeReadOnly p s = .next s') : s.Follows s' := by
  obtain ⟨P, hP, -, rfl⟩ := writeReadOnly_next h
  exact .setProc hP ⟨rfl, id⟩

theorem writeLrr_follows {w : Word64} {f : Proc → Lrr → Proc} (h : writeLrr p s w f = .next s')
    (hf : ∀ P (l : Lrr), dmUndefined l.dm = false → Proc.Follows P (f P l)) : s.Follows s' := by
  obtain ⟨P, hP, -, -, hdm, rfl⟩ := writeLrr_next h
  exact .setProc hP (hf P _ hdm)

theorem receiveMsg_follows {m : Msg} {effect : Proc → Except Refusal Proc}
    (h : receiveMsg p m s effect = .next s') (he : ∀ {Q Q'}, effect Q = .ok Q' → Q.Follows Q') :
    s.Follows s' := by
  obtain ⟨Q, Q', hQ, -, -, -, -, hQ', rfl⟩ := receiveMsg_next h
  exact .trans (.setProc hQ (he hQ')) (.eraseSysBus _ _)

theorem receiveMsg_ok_follows {m : Msg} {f : Proc → Proc}
    (h : receiveMsg p m s (fun Q => .ok (f Q)) = .next s') (hf : ∀ Q, Proc.Follows Q (f Q)) :
    s.Follows s' :=
  receiveMsg_follows h fun {Q _} hQ => Except.ok.inj hQ ▸ hf Q

/-- A message taken from a bus of `s` and forwarded keeps its mode (R306). -/
theorem State.Follows.forward {t : State} {m : Msg} {targets : Nat → List Proc} (ht : s.Follows t)
    (hm : s.Inv → dmUndefined m.dm = false) (h : forward t m targets = .next s') : s.Follows s' := by
  obtain ⟨b, -, rfl⟩ := forward_next h
  obtain ⟨-, hdm, -, -⟩ := redirected_fields t.tick (targets b) m
  have sent (hs : s.Inv) : t.Follows { t with
      sysBus := t.sysBus ++ [(b, redirected t.tick (targets b) m)], draws := t.draws + 2 } :=
    .trans (.sendSys fun _ => hdm ▸ hm hs) (.bookkeeping _ _ _)
  exact ⟨ht.platform.trans ⟨rfl, rfl, rfl⟩, fun hs => (sent hs).inv (ht.inv hs)⟩

end shared

/-! ### The operations (R145) -/

section operations

variable {s s' : State} {p u n : Nat}

theorem ipiDatumCheck_none {d : Word64} (h : ipiDatumCheck d = none) :
    dmUndefined (d.extractLsb' 8 3) = false := by
  unfold ipiDatumCheck at h
  split at h
  · cases h
  · split at h
    · cases h
    · simp_all

theorem execIpiSt8_follows {a d : Word64} (h : execIpiSt8 p a d s = .next s') : s.Follows s' := by
  obtain ⟨P, -, -, h⟩ := software_next h
  split at h
  · cases h
  split at h
  · cases h
  split at h
  · cases h
  split at h
  · cases h
  next hcheck =>
    split at h
    · cases h
    · cases h
      exact .tick (.sendSys fun _ => ipiDatumCheck_none hcheck)

theorem execXtpSt1_follows {a : Word64} {b : Byte} (h : execXtpSt1 p a b s = .next s') :
    s.Follows s' := by
  obtain ⟨P, hP, -, h⟩ := software_next h
  split at h
  · split at h
    · cases h; exact .setProc hP ⟨rfl, id⟩
    · cases h; exact .refl s
  · cases h

theorem execIntaLd1_follows {a : Word64} (h : execIntaLd1 p a s = .next s') : s.Follows s' := by
  obtain ⟨P, hP, -, h⟩ := software_next h
  split at h
  · split at h
    · cases h; exact .tick (.setProc hP (P.deliver_follows _))
    · cases h
  · cases h

theorem execSrlzD_follows (h : execSrlzD p s = .next s') : s.Follows s' := by
  obtain ⟨P, hP, -, h⟩ := software_next h
  split at h
  · cases h
  next hser =>
    cases h
    exact .setProc hP (Proc.serialize_follows hser)

theorem execIoxSelSt4_follows {w : Word32} (h : execIoxSelSt4 p u w s = .next s') : s.Follows s' := by
  obtain ⟨P, U, -, -, hU, h⟩ := onUnit_next h
  split at h
  · cases h
  · cases h
    exact .setUnit hU ⟨rfl, id⟩

theorem execIoxSelLd4_follows (h : execIoxSelLd4 p u s = .next s') : s.Follows s' := by
  obtain ⟨P, U, hP, -, -, h⟩ := onUnit_next h
  cases h
  exact .setProc hP (P.deliver_follows _)

theorem execIoxEoiSt4_follows {w : Word32} (h : execIoxEoiSt4 p u w s = .next s') : s.Follows s' := by
  obtain ⟨P, U, -, -, hU, h⟩ := onUnit_next h
  split at h
  · cases h
  split at h
  · cases h
  · cases h
    exact .setUnit hU (U.ioEoi_follows _)

theorem execIoxWinLd4Ver_follows (h : execIoxWinLd4Ver p u s = .next s') : s.Follows s' := by
  obtain ⟨P, U, hP, -, -, -, h⟩ := onWindow_next h
  cases h
  exact .setProc hP (P.deliver_follows _)

theorem execIoxWinLd4Rtelo_follows (h : execIoxWinLd4Rtelo p u n s = .next s') : s.Follows s' := by
  obtain ⟨P, U, E, hP, -, -, -, -, h⟩ := onWindowEntry_next h
  cases h
  exact .tick (.setProc hP (P.deliver_follows _))

/-- The mode written is the checked one of the datum (R227). -/
theorem execIoxWinSt4Rtelo_follows {w : Word32} (h : execIoxWinSt4Rtelo p u n w s = .next s') :
    s.Follows s' := by
  obtain ⟨P, U, E, -, -, hU, -, hE, h⟩ := onWindowEntry_next h
  split at h
  · cases h
  next hcheck =>
    obtain ⟨-, -, -, hdm⟩ := rteLoCheck_none hcheck
    split at h
    · cases h
    next hstore =>
      cases h
      obtain ⟨x, rfl⟩ := storeLo_ok hstore
      exact .tick (.setUnit hU (IoUnit.setEntry_follows hE fun _ => hdm))

theorem execIoxWinLd4Rtehi_follows (h : execIoxWinLd4Rtehi p u n s = .next s') : s.Follows s' := by
  obtain ⟨P, U, E, hP, -, -, -, -, h⟩ := onWindowEntry_next h
  cases h
  exact .setProc hP (P.deliver_follows _)

theorem execIoxWinSt4Rtehi_follows {w : Word32} (h : execIoxWinSt4Rtehi p u n w s = .next s') :
    s.Follows s' := by
  obtain ⟨P, U, E, -, -, hU, -, hE, h⟩ := onWindowEntry_next h
  split at h
  · cases h
  · cases h
    exact .setUnit hU (IoUnit.setEntry_follows hE id)

/-- Operations that the spec refuses on every path have no next state. -/
theorem software_refused_ne_next {r : Refusal} : software p s (fun _ => .refused r) ≠ .next s' := by
  intro h
  obtain ⟨P, -, -, h⟩ := software_next h
  cases h

theorem execIoxIrqaSt4_ne_next (w : Word32) : execIoxIrqaSt4 p u w s ≠ .next s' := by
  intro h
  obtain ⟨P, U, -, -, -, h⟩ := onUnit_next h
  split at h <;> cases h

theorem receiveMsg_error_ne_next {m : Msg} {r : Refusal} :
    receiveMsg p m s (fun _ => .error r) ≠ .next s' := by
  intro h
  obtain ⟨Q, Q', -, -, -, -, -, hQ', -⟩ := receiveMsg_next h
  cases hQ'

theorem onWindow_refused_ne_next {x : Nat} {r : Refusal} :
    onWindow p u x s (fun _ _ => .refused r) ≠ .next s' := by
  intro h
  obtain ⟨P, U, -, -, -, -, h⟩ := onWindow_next h
  cases h

/-- Every operation leads to a state on the same platform, and keeps the invariant. -/
theorem exec_follows {i : Instr} (h : exec i s = .next s') : s.Follows s' := by
  cases i with
  | movFromLid | movFromIrr0 | movFromTpr | movFromLrr0 | movFromLrr1 =>
    exact readRegDraw_follows h
  | movFromEoi => exact readRegDraw_follows (f := fun _ r => r) h
  | movFromIrr1 | movFromIrr2 | movFromIrr3 | movFromItv | movFromPmv | movFromCmcv =>
    exact readReg_follows h
  | movToLid | movToTpr | movToItv | movToPmv | movToCmcv =>
    exact writeReg_follows h fun _ => ⟨rfl, id⟩
  | movToIrr0 | movToIrr1 | movToIrr2 | movToIrr3 | movToIvr => exact writeReadOnly_follows h
  | movToLrr0 =>
    exact writeLrr_follows (f := fun P l => { P with lrr0 := P.lrr0.write l }) h
      fun P _ => P.writeLrr0_follows
  | movToLrr1 =>
    exact writeLrr_follows (f := fun P l => { P with lrr1 := P.lrr1.write l }) h
      fun P _ => P.writeLrr1_follows
  | movFromIvr => exact software_setProc_follows h Proc.readIvr_follows
  | movToEoi | ssmI | rsmI | ssmIc | rfi => exact software_setProc_follows h fun _ => ⟨rfl, id⟩
  | srlzD => exact execSrlzD_follows h
  | ipiSt8 => exact execIpiSt8_follows h
  | ipiStBad | ipiLd | pibUndef => exact absurd h software_refused_ne_next
  | xtpSt1 => exact execXtpSt1_follows h
  | intaLd1 => exact execIntaLd1_follows h
  | ioxSelSt4 => exact execIoxSelSt4_follows h
  | ioxSelLd4 => exact execIoxSelLd4_follows h
  | ioxIrqaSt4 p u w => exact absurd h (execIoxIrqaSt4_ne_next w)
  | ioxEoiSt4 => exact execIoxEoiSt4_follows h
  | ioxWinLd4Ver => exact execIoxWinLd4Ver_follows h
  | ioxWinSt4Ver | ioxWinLd4Undef | ioxWinSt4Undef => exact absurd h onWindow_refused_ne_next
  | ioxWinLd4Rtelo => exact execIoxWinLd4Rtelo_follows h
  | ioxWinSt4Rtelo => exact execIoxWinSt4Rtelo_follows h
  | ioxWinLd4Rtehi => exact execIoxWinLd4Rtehi_follows h
  | ioxWinSt4Rtehi => exact execIoxWinSt4Rtehi_follows h
  | msgInt => exact receiveMsg_follows h Proc.pendInt_follows
  | msgPmi => exact receiveMsg_follows h Proc.pendPmi_follows
  | msgNmi | msgInit | msgExtint => exact receiveMsg_ok_follows h fun _ => ⟨rfl, id⟩
  | msgUndef001 | msgUndef011 | msgUndef110 => exact absurd h receiveMsg_error_ne_next

end operations

/-! ### The moves (R17) -/

section moves

variable {s s' : State} {p u n : Nat}

theorem settle_follows {x : SerElem} (h : settle p x s = .next s') : s.Follows s' := by
  obtain ⟨P, hP, h⟩ := onProc_next h
  cases x with
  | lid | tpr | itv | pmv | cmcv | psrI | psrIc => cases h; exact .setProc hP ⟨rfl, id⟩
  | lrr0 => cases h; exact .setProc hP P.settleLrr0_follows
  | lrr1 => cases h; exact .setProc hP P.settleLrr1_follows
  | eoi =>
    dsimp only at h
    split at h
    · cases h
    split at h
    · cases h
    next heoi =>
      cases h
      exact .setProc hP ((Proc.eoiEffect_follows heoi).trans ⟨rfl, id⟩)

theorem accept_follows (h : accept p s = .next s') : s.Follows s' := by
  obtain ⟨P, hP, h⟩ := onProc_next h
  split at h
  · split at h
    · cases h; exact .setProc hP ⟨rfl, id⟩
    · cases h
  · cases h

theorem takePmi_follows {v : BitVec 4} (h : takePmi p v s = .next s') : s.Follows s' := by
  obtain ⟨P, hP, h⟩ := onProc_next h
  split at h
  · cases h; exact .setProc hP ⟨rfl, id⟩
  · cases h

theorem takeInit_follows (h : takeInit p s = .next s') : s.Follows s' := by
  obtain ⟨P, hP, h⟩ := onProc_next h
  split at h
  · cases h; exact .setProc hP ⟨rfl, id⟩
  · cases h

/-- A masked event does nothing; an unmasked one pends a vector that is not reserved (R322). -/
theorem localEvent_follows {lvr : Proc → Lvr} (h : localEvent p s lvr = .next s') : s.Follows s' := by
  obtain ⟨P, hP, h⟩ := onProc_next h
  split at h
  · cases h; exact .refl s
  split at h
  · cases h
  next hv =>
    cases h
    exact .setProc hP (P.writeIrr_follows _ _ fun _ => Nat.le_of_not_lt hv)

theorem sampleLint_follows {k : LintPin} (h : sampleLint p k s = .next s') : s.Follows s' := by
  obtain ⟨P, hP, h⟩ := onProc_next h
  split at h
  · cases h
  dsimp only at h
  split at h
  · cases h
  next hsample =>
    cases h
    exact .tick (.setProc hP ((Proc.sampleLint_follows hsample).trans (Proc.setLint_follows _ _ _)))

theorem samplePin_follows (h : samplePin u n s = .next s') : s.Follows s' := by
  obtain ⟨U, E, hU, hE, h⟩ := onEntry_next h
  split at h
  · cases h
  next hsample =>
    cases h
    obtain ⟨x, rfl⟩ := sample_ok hsample
    exact .tick (.setUnit hU (IoUnit.setEntry_follows hE id))

/-- A mode of the Redirection Table's list is sent as one of the messages' list (R131, R297). -/
theorem dmUndefined_fixedMode {dm : DMode} (h : dmUndefinedRte dm = false) :
    dmUndefined (fixedMode dm) = false := by
  revert dm
  decide

/-- The message sent has a mode that the entry of a well-formed unit holds. -/
theorem sendEntry_follows (h : sendEntry u n s = .next s') : s.Follows s' := by
  obtain ⟨U, E, hU, hE, h⟩ := onEntry_next h
  split at h
  · cases h
    have hmsg (hs : s.Inv) : dmUndefined E.msg.dm = false := by
      obtain ⟨-, -, -, -, hdm⟩ := hs.units U (List.mem_of_getElem? hU)
      exact dmUndefined_fixedMode (hdm E (List.mem_of_getElem? hE))
    exact .trans (.sendIo hmsg) (.setUnit hU (IoUnit.setEntry_follows hE id))
  · cases h

/-- The message leaves the I/O bus with the mode it had there, and the stores wait for one message less. -/
theorem bridge_follows {m : Msg} (h : bridge m s = .next s') : s.Follows s' := by
  obtain ⟨hm, -, t, h⟩ := bridge_next h
  have taken : s.Follows { s with
      ioBus := s.ioBus.erase m, stores := s.stores.map PendingStore.passed } := by
    refine .trans (.setIoBus fun hs x hx => hs.ioBus x (List.mem_of_mem_erase hx)) (.setStores ?_)
    intro hs y hy
    obtain ⟨x, hx, rfl⟩ := List.mem_map.1 hy
    exact hs.stores x hx
  exact taken.forward (fun hs => hs.ioBus m hm) h

/-- A hinted message leaves its bus with the mode it had there, or is lost (R309, R310). -/
theorem ipiHint_follows {b : Nat} {m : Msg} (h : ipiHint b m s = .next s') : s.Follows s' := by
  unfold ipiHint at h
  split at h
  case isFalse => cases h
  next hm =>
    obtain ⟨-, h⟩ := unlessDuplicate_next h
    split at h
    · split at h
      · cases h
      · exact (State.Follows.eraseSysBus s (b, m)).forward (fun hs => hs.sysBus _ hm.1) h
    · cases h; exact .eraseSysBus s _

theorem dropMsg_follows {b : Nat} {m : Msg} (h : dropMsg b m s = .next s') : s.Follows s' := by
  unfold dropMsg at h
  split at h
  · obtain ⟨-, h⟩ := unlessDuplicate_next h
    cases h
    exact .eraseSysBus s _
  · cases h

theorem drivePin_follows {level : Bool} (h : drivePin u n level s = .next s') : s.Follows s' := by
  obtain ⟨U, E, hU, hE, h⟩ := onEntry_next h
  split at h
  · cases h
  · cases h
    exact .setUnit hU (IoUnit.setEntry_follows hE id)

theorem driveLint_follows {k : LintPin} {level : Bool} (h : driveLint p k level s = .next s') :
    s.Follows s' := by
  obtain ⟨P, hP, h⟩ := onProc_next h
  split at h
  · cases h
  split at h
  · cases h
  · cases h
    exact .setProc hP (P.setLint_follows _ _)

theorem driveDedicated_follows {k : DedicatedPin} {level : Bool}
    (h : driveDedicated p k level s = .next s') : s.Follows s' := by
  obtain ⟨P, hP, h⟩ := onProc_next h
  cases h
  exact .setProc hP (P.driveDedicated_follows _ _)

theorem deviceData_follows {a : Nat} {d : Word64} (h : deviceData a n d s = .next s') :
    s.Follows s' := by
  obtain ⟨haddr, hform, hdev, rfl⟩ := deviceData_next h
  exact .addStore hform haddr hdev

/-- A write in the delivery area is a message of a defined mode, another one is data (R109, R302). -/
theorem ioBusWrite_follows {ad data : Word32} (h : ioBusWrite ad data s = .next s') : s.Follows s' := by
  unfold ioBusWrite at h
  split at h
  · split at h
    · cases h
    split at h
    · cases h
    next hdm =>
      cases h
      exact .sendIo fun _ => dmUndefined_fixedMode (Bool.not_eq_true _ ▸ hdm)
  · exact deviceData_follows h

theorem deviceMsg_follows {m : Msg} (h : deviceMsg m s = .next s') : s.Follows s' := by
  unfold deviceMsg at h
  split at h
  · cases h
  next hdm =>
    cases h
    exact .sendIo fun _ => dmUndefined_fixedMode (Bool.not_eq_true _ ▸ hdm)

/-- An aligned access below `2^63` ends below it. -/
theorem memoryForm_end_le {a w : Nat} (hform : memoryForm a w = true) (ha : a < 2 ^ 63) :
    a + w ≤ 2 ^ 63 := by
  simp only [memoryForm, Bool.and_eq_true, Bool.or_eq_true, beq_iff_eq] at hform
  obtain ⟨((rfl | rfl) | rfl) | rfl, halign⟩ := hform <;> omega

/-- The bytes that land are those of a store on its way, which lie outside every device. -/
theorem land_follows {k : Nat} (h : land k s = .next s') : s.Follows s' := by
  obtain ⟨x, hx, rfl⟩ := land_next h
  refine .trans (.setMem (m := s.mem.write x.addr x.width x.data) fun hs => ?_)
    (.setStores fun ht y hy => ht.stores y (List.mem_of_mem_eraseIdx hy))
  refine ⟨Memory.write_wf _ _ _ hs.mem, fun c hc => ?_⟩
  obtain ⟨hform, haddr, hdev⟩ := hs.stores x (List.mem_of_getElem? hx)
  rcases Memory.mem_write hc with ⟨hle, hlt⟩ | hc
  · have hend := memoryForm_end_le hform haddr
    have hbyte := deviceBytes_eq_false.1 hdev (c.1 - x.addr) (by omega)
    rw [Nat.add_sub_cancel' hle] at hbyte
    exact ⟨by omega, hbyte⟩
  · exact hs.outside c hc

theorem perform_follows {k : Nat} {l : List (Option Nat)} (h : perform k l s = .next s') :
    s.Follows s' := by
  obtain ⟨x, P, v, -, hP, -, rfl⟩ := perform_next h
  exact .trans (.setProc hP (P.deliver_follows v))
    (.setLoads fun ht y hy => ht.loads y (List.mem_of_mem_eraseIdx hy))

theorem writeIpsr_follows {v : PsrBits} (h : writeIpsr p v s = .next s') : s.Follows s' :=
  software_setProc_follows h fun _ => ⟨rfl, id⟩

/-- Memory is claimed only below the end of the physical memory space (R54, R80). -/
theorem addr_lt_of_claim_memory {x : Access} (h : claim x s = .memory) : x.addr.toNat < 2 ^ 63 := by
  unfold claim at h
  split at h
  · cases h
  · omega

theorem memoryAccess_follows {x : Access} (haddr : x.addr.toNat < 2 ^ 63)
    (h : memoryAccess x s = .next s') : s.Follows s' := by
  obtain ⟨P, hP, -, h⟩ := software_next h
  split at h
  · cases h
  next hform =>
    rw [Bool.not_eq_false] at hform
    split at h
    · cases h
    next hdev =>
      rw [Bool.not_eq_true] at hdev
      split at h
      · cases h
        exact .addStore hform haddr hdev
      · cases h
        obtain ⟨hp, -⟩ := List.getElem?_eq_some_iff.1 hP
        exact .setLoads fun hs =>
          List.forall_mem_append.2 ⟨hs.loads, List.forall_mem_singleton.2 ⟨hp, hform, haddr, hdev⟩⟩

theorem runAccess_follows {x : Access} (h : runAccess x s = .next s') : s.Follows s' := by
  unfold runAccess at h
  split at h
  · exact exec_follows h
  next hclaim => exact memoryAccess_follows (addr_lt_of_claim_memory hclaim) h
  · obtain ⟨P, -, -, h⟩ := software_next h
    cases h
  · exact absurd h software_refused_ne_next

theorem runWords_follows {ws : List Word64} (h : runWords ws s = .next s') : s.Follows s' := by
  unfold runWords at h
  split at h
  · exact exec_follows h
  · cases h

/-- Every move leads to a state on the same platform, and keeps the invariant. -/
theorem runMove_follows {mv : Move} (h : runMove mv s = .next s') : s.Follows s' := by
  cases mv with
  | op => exact runWords_follows h
  | access => exact runAccess_follows h
  | receive => exact exec_follows h
  | settle => exact settle_follows h
  | accept => exact accept_follows h
  | takePmi => exact takePmi_follows h
  | takeInit => exact takeInit_follows h
  | sampleLint => exact sampleLint_follows h
  | samplePin => exact samplePin_follows h
  | send => exact sendEntry_follows h
  | bridge => exact bridge_follows h
  | ipiHint => exact ipiHint_follows h
  | drop => exact dropMsg_follows h
  | drivePin => exact drivePin_follows h
  | driveLint => exact driveLint_follows h
  | driveDedicated => exact driveDedicated_follows h
  | timerEvent | pmuEvent | cmcEvent => exact localEvent_follows h
  | ioBusWrite => exact ioBusWrite_follows h
  | deviceMsg => exact deviceMsg_follows h
  | deviceData => exact deviceData_follows h
  | land => exact land_follows h
  | perform => exact perform_follows h
  | ioBusRead => cases h; exact .refl s
  | writeIpsr => exact writeIpsr_follows h

end moves

/-! ### The step -/

theorem step_duplicate {s : State} (h : s.duplicateHeld = true) : step s = .refused .duplicateLids :=
  if_pos h

theorem step_nil {s : State} (hd : s.duplicateHeld = false) (h : s.agenda = []) : step s = .next s := by
  simp [step, hd, h]

theorem step_cons {s : State} {mv : Move} {rest : List Move} (hd : s.duplicateHeld = false)
    (h : s.agenda = mv :: rest) : step s = runMove mv { s with agenda := rest } := by
  simp [step, hd, h]

/-- The address map does not read the agenda. -/
theorem claim_agenda (x : Access) (s : State) (l : List Move) :
    claim x { s with agenda := l } = claim x s := rfl

/-- A step that answers a next state: nothing to do, or the next move done. -/
theorem step_next {s s' : State} (h : step s = .next s') :
    s' = s ∨ ∃ mv rest, s.agenda = mv :: rest ∧ runMove mv { s with agenda := rest } = .next s' := by
  have hd : s.duplicateHeld = false := by
    rw [← Bool.not_eq_true]
    intro hd
    rw [step_duplicate hd] at h
    cases h
  cases hl : s.agenda with
  | nil =>
    rw [step_nil hd hl] at h
    cases h
    exact .inl rfl
  | cons mv rest =>
    rw [step_cons hd hl] at h
    exact .inr ⟨mv, rest, rfl, h⟩

theorem step_follows {s s' : State} (h : step s = .next s') : s.Follows s' := by
  rcases step_next h with rfl | ⟨mv, rest, -, h⟩
  · exact .refl s'
  · exact .trans (.bookkeeping s s.draws rest) (runMove_follows h)

/-- Settles O51: every step leads to a state that follows. -/
theorem stepKeepsInvariant : Obligations.StepKeepsInvariant :=
  fun _ _ hs h => (step_follows h).inv hs

/-- Settles O59: every step leads to a state on the same platform. -/
theorem platformIsConstant : Obligations.PlatformIsConstant := fun _ _ h =>
  let ⟨hplat, hprocs, hunits⟩ := (step_follows h).platform
  ⟨hplat, hprocs, hunits⟩

/-- Settles O5: the step is the next move, which is `exec` where the move is an operation. -/
theorem stepRunsTheOperation : Obligations.StepRunsTheOperation := by
  refine ⟨fun s => step_duplicate, fun s hd => ⟨step_nil hd, fun mv rest => step_cons hd, ?_, ?_, ?_, ?_⟩⟩
  · intro ws rest i hl hdec
    simp [step_cons hd hl, runMove, runWords, hdec]
  · intro q m rest hl
    exact step_cons hd hl
  · intro x rest i hl hclaim
    simp [step_cons hd hl, runMove, runAccess, claim_agenda, hclaim]
  · intro ws rest e hl hdec
    simp [step_cons hd hl, runMove, runWords, hdec]

/-! ### Reset -/

theorem Proc.reset_wf (c : ProcParams) : (Proc.reset c).Wf :=
  ⟨fun _ _ => BitVec.getLsbD_zero, fun _ _ _ _ => BitVec.getLsbD_zero, rfl, rfl, rfl, rfl⟩

theorem Proc.reset_quiet (c : ProcParams) : (Proc.reset c).Quiet := ⟨rfl, rfl, rfl, rfl, rfl, rfl, rfl⟩

/-- The effective LID after reset is the identifier the platform gives (R62). -/
theorem Proc.reset_lid (c : ProcParams) :
    ((Proc.reset c).lid.eff.id ++ (Proc.reset c).lid.eff.eid : BitVec 16) = c.lid0 := by
  have hjoin : (c.lid0.extractLsb' 8 8 ++ c.lid0.extractLsb' 0 8 : BitVec 16) = c.lid0.extractLsb' 0 16 :=
    BitVec.extractLsb'_append_extractLsb'_eq_extractLsb' (by rfl)
  exact hjoin.trans BitVec.extractLsb'_eq_self

theorem IoUnit.reset_wf {c : UnitParams} (hin : c.base.toNat + 256 ≤ 2 ^ 63) (hmax : c.maxRte < 120)
    (hver : c.version.extractLsb' 4 4 = 2) : (IoUnit.reset c).Wf := by
  have hlen : (IoUnit.reset c).entries.length = c.maxRte + 1 := List.length_replicate
  refine ⟨hin, by omega, by omega, hver, fun E hE => ?_⟩
  rw [List.eq_of_mem_replicate hE]
  rfl

theorem IoUnit.reset_idle (c : UnitParams) : (IoUnit.reset c).Idle := by
  intro E hE
  rw [List.eq_of_mem_replicate hE]
  exact ⟨rfl, rfl⟩

theorem State.resetOf_inv {c : Params} (hc : c.Ok) : (State.resetOf c).Inv where
  plat := hc.plat
  nproc := by simpa [State.resetOf] using hc.procs
  procs := List.forall_mem_map.2 fun P _ => Proc.reset_wf P
  niox := by simpa [State.resetOf] using hc.units
  bases := List.pairwise_map.2 hc.bases
  units := List.forall_mem_map.2 fun U hU =>
    IoUnit.reset_wf (hc.inside U hU) (hc.entries U hU).1 (hc.entries U hU).2
  ioBus := nofun
  sysBus := nofun
  mem := rfl
  outside := nofun
  stores := nofun
  loads := nofun

theorem State.resetOf_lidsTellBuses {c : Params} (hc : c.Ok) : (State.resetOf c).LidsTellBuses := by
  refine List.forall_mem_map.2 fun P hP => List.forall_mem_map.2 fun Q hQ h => ?_
  rw [Proc.reset_lid, Proc.reset_lid] at h
  exact hc.buses P hP Q hQ h

theorem State.resetOf_uniqueLids {c : Params} (h : c.procs.Pairwise fun P Q => P.lid0 ≠ Q.lid0) :
    (State.resetOf c).UniqueLids := by
  refine List.pairwise_map.2 (h.imp fun {P Q} hne heq => hne ?_)
  rw [← Proc.reset_lid P, ← Proc.reset_lid Q, heq.1, heq.2]

theorem defaultCrIndex_distinct : Config.defaultCrIndex.Distinct := by
  intro x y
  cases x <;> cases y <;> decide

theorem defaultPlatform_wf : Config.defaultPlatform.Wf :=
  ⟨by decide, by decide, by decide, by decide, by decide, by decide, by decide, defaultCrIndex_distinct⟩

theorem defaultParams_ok : Config.defaultParams.Ok where
  plat := defaultPlatform_wf
  procs := by decide
  buses := by decide
  units := by decide
  bases := List.pairwise_singleton _ _
  inside := by decide
  entries := by decide

/-- Settles O52: reset, on the default platform and on every platform that R7 allows. -/
theorem resetMeetsInvariant : Obligations.ResetMeetsInvariant :=
  ⟨State.resetOf_inv defaultParams_ok, fun _ hc =>
    ⟨State.resetOf_inv hc, State.resetOf_lidsTellBuses hc, ⟨rfl, rfl⟩,
      List.forall_mem_map.2 fun P _ => Proc.reset_quiet P,
      List.forall_mem_map.2 fun U _ => IoUnit.reset_idle U, State.resetOf_uniqueLids⟩⟩

end Sys2Proof.Machine
end

section
/-! SUPPORT. Who writes the state, and the obligations of `10_state.md`.

`s₀.Explains s s'` says that every change from `s` to `s'` of what these obligations speak of (the vectors
pending and in service, PSR.ic, AWAIT, memory and the accesses on their way) is one that the next move of
`s₀` makes. Each update has one rule for it, and the obligations about every step are cases of it. -/

namespace Sys2Proof.Machine

/-! ### What a move does to a processor -/

/-- No pending bit cleared, nothing in or out of service, PSR.ic not cleared. -/
structure Proc.Calm (P P' : Proc) : Prop where
  pending : ∀ v, P.irr.getLsbD v = true → P'.irr.getLsbD v = true
  insvc : P'.insvc = P.insvc
  collection : P.psrIc.arch = true → P'.psrIc.arch = true

theorem Proc.Calm.of_eq {P P' : Proc} (hirr : P'.irr = P.irr) (hinsvc : P'.insvc = P.insvc)
    (hic : P'.psrIc.arch = P.psrIc.arch) : P.Calm P' :=
  ⟨fun _ h => hirr ▸ h, hinsvc, fun h => hic ▸ h⟩

theorem Proc.Calm.refl (P : Proc) : P.Calm P := .of_eq rfl rfl rfl

theorem Proc.Calm.setLint {P P' : Proc} (h : P.Calm P') (k : LintPin) (x : Pin) :
    P.Calm (P'.setLint k x) := by
  cases k <;> exact { h with }

theorem Proc.pendIrr_calm (P : Proc) (v : Nat) : P.Calm { P with irr := writeBit P.irr v true } where
  pending := by
    intro w hw
    have hlt : w < 256 := BitVec.lt_of_getLsbD hw
    show (writeBit P.irr v true).getLsbD w = true
    rw [getLsbD_writeBit]
    split <;> simp_all
  insvc := rfl
  collection := id

theorem Proc.pendInt_calm {v : Byte} {P P' : Proc} (h : P.pendInt v = .ok P') : P.Calm P' := by
  obtain ⟨-, rfl⟩ := pendInt_ok h
  exact P.pendIrr_calm _

theorem Proc.pendPmi_calm {v : Byte} {P P' : Proc} (h : P.pendPmi v = .ok P') : P.Calm P' := by
  obtain ⟨-, rfl⟩ := pendPmi_ok h
  exact .of_eq rfl rfl rfl

theorem Proc.deliverLocal_calm {dm : DMode} {v : Byte} {P P' : Proc}
    (h : P.deliverLocal dm v = .ok P') : P.Calm P' := by
  rcases deliverLocal_ok h with ⟨-, -, rfl⟩ | ⟨-, -, rfl⟩ | ⟨-, rfl⟩ | ⟨-, rfl⟩ | ⟨-, rfl⟩
  · exact P.pendIrr_calm _
  all_goals exact .of_eq rfl rfl rfl

/-- A level pin of mode INT, active before and inactive now: its vector is pending no more (R326). -/
structure Lrr.Releases (L : Lrr) (was is : Bool) : Prop where
  level : L.tm = true
  mode : L.dm = DMode.int
  before : was = true
  now : is = false

/-- A LINT pin clears a pending bit only where it is level sensitive and goes inactive (R325 to R328). -/
theorem Proc.sampleLint_cases {P P' : Proc} {L : Lrr} {was is free : Bool}
    (h : P.sampleLint L was is free = .ok P') :
    P.Calm P' ∨ (L.Releases was is ∧ P' = { P with irr := writeBit P.irr L.vector.toNat false }) := by
  unfold Proc.sampleLint at h
  split at h
  case isTrue => cases h; exact .inl (.refl P)
  split at h
  case isTrue =>
    split at h
    · exact .inl (Proc.deliverLocal_calm h)
    · cases h; exact .inl (.refl P)
  next hlevel =>
    obtain ⟨htm, -⟩ := not_or.1 hlevel
    split at h
    next hint =>
      split at h
      · exact .inl (Proc.pendInt_calm h)
      split at h
      next hfall => cases h; exact .inr ⟨⟨by simpa using htm, hint, hfall.1, hfall.2⟩, rfl⟩
      split at h
      · exact .inl (Proc.pendInt_calm h)
      · cases h; exact .inl (.refl P)
    split at h
    · cases h
    · cases h; exact .inl (.refl P)

/-- What the next move of `s₀` may make of its processor `p`: calm, or one of the six moves by which a
pending bit is cleared, the vectors in service change, or PSR.ic is cleared. -/
inductive State.ProcStep (s₀ : State) (p : Nat) (P : Proc) : Proc → Prop
  | calm {P' : Proc} (h : P.Calm P') : ProcStep s₀ p P P'
  | readIvr (h : s₀.performs (.movFromIvr p)) : ProcStep s₀ p P P.readIvr
  | serialize {P' : Proc} (h : s₀.performs (.srlzD p)) (hser : P.serialize = some P') :
    ProcStep s₀ p P P'
  | settleEoi {v : Nat} (h : s₀.doing (.settle p .eoi)) (hq : P.eoiq ≠ 0) (hv : P.topInsvc = some v) :
    ProcStep s₀ p P { P with insvc := writeBit P.insvc v false, eoiq := P.eoiq - 1 }
  | rfi (h : s₀.performs (.rfi p)) : ProcStep s₀ p P P.returnFromInterruption
  | accept (h : s₀.doing (.accept p)) (a : Word64) : ProcStep s₀ p P (P.acceptInterrupt a)
  | lintReleased {k : LintPin} (h : s₀.doing (.sampleLint p k))
    (hrel : (P.lrrEff k).Releases (activeLevel (P.lrrEff k).ipp (P.lint k).prev)
      (activeLevel (P.lrrEff k).ipp (P.lint k).level)) (x : Pin) :
    ProcStep s₀ p P ({ P with irr := writeBit P.irr (P.lrrEff k).vector.toNat false }.setLint k x)

/-! ### What a move does to an entry, and to the accesses on their way -/

/-- What the next move of `s₀` may make of AWAIT of entry `n` of unit `u` (R48). -/
inductive State.EntryStep (s₀ : State) (u n : Nat) (E : Entry) : Entry → Prop
  | kept {E' : Entry} (h : E'.await = E.await) : EntryStep s₀ u n E E'
  | sent (h : s₀.doing (.send u n)) : EntryStep s₀ u n E E.sent
  | ioEoi {p : Nat} {w : Word32} (h : s₀.performs (.ioxEoiSt4 p u w)) :
    EntryStep s₀ u n E (E.ioEoi (w.extractLsb' 0 8))

/-- Where a store on its way after the next move of `s₀`, done from `s`, comes from (R101, R103). -/
inductive State.StoreStep (s₀ s : State) : PendingStore → Prop
  | kept {y z : PendingStore} (hz : z ∈ s.stores) (haddr : z.addr = y.addr) (hwidth : z.width = y.width)
    (hdata : z.data = y.data) : StoreStep s₀ s y
  | access {x : Access} (h : s₀.doing (.access x)) (hstore : x.store = true)
    (hclaim : claim x s = .memory) (hdev : s.deviceBytes x.addr.toNat x.width = false) :
    StoreStep s₀ s ⟨x.addr.toNat, x.width, x.data, none⟩
  | deviceData {a d : Word64} {n : Nat} (h : s₀.doing (.deviceData a n d))
    (hdev : s.deviceBytes a.toNat n = false) : StoreStep s₀ s ⟨a.toNat, n, d, some s.ioBus.length⟩
  | ioBusWrite {a d : Word32} (h : s₀.doing (.ioBusWrite a d)) (hdev : s.deviceBytes a.toNat 4 = false) :
    StoreStep s₀ s ⟨a.toNat, 4, d.setWidth 64, some s.ioBus.length⟩

/-- Where a load on its way after the next move of `s₀`, done from `s`, comes from (R101). -/
inductive State.LoadStep (s₀ s : State) : PendingLoad → Prop
  | kept {y : PendingLoad} (hy : y ∈ s.loads) : LoadStep s₀ s y
  | access {x : Access} (h : s₀.doing (.access x)) (hload : x.store = false)
    (hclaim : claim x s = .memory) (hdev : s.deviceBytes x.addr.toNat x.width = false) :
    LoadStep s₀ s ⟨x.p, x.addr.toNat, x.width⟩

/-- Nothing here depends on the agenda of `s`. -/
theorem State.StoreStep.of_agenda {s₀ s : State} {l : List Move} {y : PendingStore}
    (h : s₀.StoreStep { s with agenda := l } y) : s₀.StoreStep s y := by
  cases h with
  | kept hz haddr hwidth hdata => exact .kept hz haddr hwidth hdata
  | access hm hstore hclaim hdev => exact .access hm hstore hclaim hdev
  | deviceData hm hdev => exact .deviceData hm hdev
  | ioBusWrite hm hdev => exact .ioBusWrite hm hdev

theorem State.LoadStep.of_agenda {s₀ s : State} {l : List Move} {y : PendingLoad}
    (h : s₀.LoadStep { s with agenda := l } y) : s₀.LoadStep s y := by
  cases h with
  | kept hy => exact .kept hy
  | access hm hload hclaim hdev => exact .access hm hload hclaim hdev

/-! ### Changes that the next move explains -/

/-- Every change from `s` to `s'` is one that the next move of `s₀` makes. -/
structure State.Explains (s₀ s s' : State) : Prop where
  procs : ∀ {p P P'}, s.procs[p]? = some P → s'.procs[p]? = some P' → s₀.ProcStep p P P'
  entries : ∀ {u n U U' E E'}, HasEntry s u n U E → HasEntry s' u n U' E' → s₀.EntryStep u n E E'
  mem : s'.mem = s.mem ∨ ∃ k x, s₀.doing (.land k) ∧ s.stores[k]? = some x ∧
    s'.mem = s.mem.write x.addr x.width x.data
  stores : ∀ y ∈ s'.stores, s₀.StoreStep s y
  loads : ∀ y ∈ s'.loads, s₀.LoadStep s y

namespace State.Explains

variable {s₀ s s' : State}

theorem refl (s₀ s : State) : s₀.Explains s s where
  procs := by
    intro p P P' hP hP'
    cases hP.symm.trans hP'
    exact .calm (.refl P)
  entries := by
    rintro u n U U' E E' ⟨hU, hE⟩ ⟨hU', hE'⟩
    cases hU.symm.trans hU'
    cases hE.symm.trans hE'
    exact .kept rfl
  mem := .inl rfl
  stores := fun _ hy => .kept hy rfl rfl rfl
  loads := fun _ hy => .kept hy

/-- The buses, the count of draws and the agenda are free. -/
theorem bookkeeping (h : s₀.Explains s s') (io : List Msg) (sys : List (Nat × Msg)) (d : Nat)
    (l : List Move) : s₀.Explains s { s' with ioBus := io, sysBus := sys, draws := d, agenda := l } :=
  { h with }

theorem tick (h : s₀.Explains s s') : s₀.Explains s s'.tick := h.bookkeeping _ _ _ _

theorem setProc {p : Nat} {P P' : Proc} (hP : s.procs[p]? = some P) (h : s₀.ProcStep p P P') :
    s₀.Explains s (s.setProc p P') where
  procs := by
    intro q Q Q' hQ hQ'
    rw [State.setProc_procs, List.getElem?_set] at hQ'
    split at hQ'
    next hpq =>
      subst hpq
      cases hP.symm.trans hQ
      split at hQ'
      · cases hQ'; exact h
      · cases hQ'
    · exact (refl s₀ s).procs hQ hQ'
  entries := (refl s₀ s).entries
  mem := (refl s₀ s).mem
  stores := (refl s₀ s).stores
  loads := (refl s₀ s).loads

theorem setProc_calm {p : Nat} {P P' : Proc} (hP : s.procs[p]? = some P) (h : P.Calm P') :
    s₀.Explains s (s.setProc p P') :=
  setProc hP (.calm h)

theorem deliver {p : Nat} {P : Proc} (hP : s.procs[p]? = some P) (r : Word64) :
    s₀.Explains s (s.setProc p (P.deliver r)) :=
  setProc_calm hP (.of_eq rfl rfl rfl)

theorem setUnit {u : Nat} {U U' : IoUnit} (hU : s.units[u]? = some U)
    (h : ∀ {n E E'}, U.entries[n]? = some E → U'.entries[n]? = some E' → s₀.EntryStep u n E E') :
    s₀.Explains s (s.setUnit u U') where
  procs := (refl s₀ s).procs
  entries := by
    rintro w n V V' E E' ⟨hV, hE⟩ ⟨hV', hE'⟩
    rw [State.setUnit_units, List.getElem?_set] at hV'
    split at hV'
    next huw =>
      subst huw
      cases hU.symm.trans hV
      split at hV'
      · cases hV'; exact h hE hE'
      · cases hV'
    · exact (refl s₀ s).entries ⟨hV, hE⟩ ⟨hV', hE'⟩
  mem := (refl s₀ s).mem
  stores := (refl s₀ s).stores
  loads := (refl s₀ s).loads

theorem setEntry {u n : Nat} {U : IoUnit} {E E' : Entry} (hU : s.units[u]? = some U)
    (hE : U.entries[n]? = some E) (h : s₀.EntryStep u n E E') :
    s₀.Explains s (s.setUnit u (U.setEntry n E')) := by
  refine setUnit hU fun {m F F'} hF hF' => ?_
  rw [IoUnit.setEntry_entries, List.getElem?_set] at hF'
  split at hF'
  next hnm =>
    subst hnm
    cases hE.symm.trans hF
    split at hF'
    · cases hF'; exact h
    · cases hF'
  · cases hF.symm.trans hF'
    exact .kept rfl

theorem addStore {x : PendingStore} (h : s₀.StoreStep s x) :
    s₀.Explains s { s with stores := s.stores ++ [x] } :=
  { refl s₀ s with
    stores := List.forall_mem_append.2 ⟨(refl s₀ s).stores, List.forall_mem_singleton.2 h⟩ }

theorem addLoad {x : PendingLoad} (h : s₀.LoadStep s x) :
    s₀.Explains s { s with loads := s.loads ++ [x] } :=
  { refl s₀ s with
    loads := List.forall_mem_append.2 ⟨(refl s₀ s).loads, List.forall_mem_singleton.2 h⟩ }

end State.Explains

/-! ### The shared operations -/

section explainedShared

variable {s₀ s s' : State} {p : Nat}

/-- An operation that does nothing but update the processor that issues it. -/
theorem software_setProc_explained {f : Proc → Proc}
    (h : software p s (fun P => .next (s.setProc p (f P))) = .next s')
    (hf : ∀ P, s₀.ProcStep p P (f P)) : s₀.Explains s s' := by
  obtain ⟨P, hP, -, h⟩ := software_next h
  cases h
  exact .setProc hP (hf P)

theorem readReg_explained {f : Proc → Word64} (h : readReg p s f = .next s') : s₀.Explains s s' := by
  obtain ⟨P, hP, -, rfl⟩ := readReg_next h
  exact .deliver hP _

theorem readRegDraw_explained {f : Proc → Word64 → Word64} (h : readRegDraw p s f = .next s') :
    s₀.Explains s s' := by
  obtain ⟨P, hP, -, rfl⟩ := readRegDraw_next h
  exact .tick (.deliver hP _)

theorem writeReg_explained {w r : Word64} {f : Proc → Proc} (h : writeReg p s w r f = .next s')
    (hf : ∀ P, Proc.Calm P (f P)) : s₀.Explains s s' := by
  obtain ⟨P, hP, -, ⟨-, rfl⟩ | ⟨-, rfl⟩⟩ := writeReg_next h
  · exact .setProc_calm hP (hf P)
  · exact .setProc_calm hP (.of_eq rfl rfl rfl)

theorem writeReadOnly_explained (h : writeReadOnly p s = .next s') : s₀.Explains s s' := by
  obtain ⟨P, hP, -, rfl⟩ := writeReadOnly_next h
  exact .setProc_calm hP (.of_eq rfl rfl rfl)

theorem writeLrr_explained {w : Word64} {f : Proc → Lrr → Proc} (h : writeLrr p s w f = .next s')
    (hf : ∀ P (l : Lrr), Proc.Calm P (f P l)) : s₀.Explains s s' := by
  obtain ⟨P, hP, -, -, -, rfl⟩ := writeLrr_next h
  exact .setProc_calm hP (hf P _)

theorem receiveMsg_explained {m : Msg} {effect : Proc → Except Refusal Proc}
    (h : receiveMsg p m s effect = .next s') (he : ∀ {Q Q'}, effect Q = .ok Q' → Q.Calm Q') :
    s₀.Explains s s' := by
  obtain ⟨Q, Q', hQ, -, -, -, -, hQ', rfl⟩ := receiveMsg_next h
  exact (State.Explains.setProc_calm hQ (he hQ')).bookkeeping _ _ _ _

theorem receiveMsg_ok_explained {m : Msg} {f : Proc → Proc}
    (h : receiveMsg p m s (fun Q => .ok (f Q)) = .next s') (hf : ∀ Q, Proc.Calm Q (f Q)) :
    s₀.Explains s s' :=
  receiveMsg_explained h fun {Q _} hQ => Except.ok.inj hQ ▸ hf Q

end explainedShared

/-! ### The operations (R145) -/

section explainedOperations

variable {s₀ s s' : State} {p u n : Nat}

theorem execIpiSt8_explained {a d : Word64} (h : execIpiSt8 p a d s = .next s') : s₀.Explains s s' := by
  obtain ⟨P, -, -, h⟩ := software_next h
  split at h
  · cases h
  split at h
  · cases h
  split at h
  · cases h
  split at h
  · cases h
  split at h
  · cases h
  · cases h
    exact (State.Explains.refl s₀ s).bookkeeping _ _ _ _

theorem execXtpSt1_explained {a : Word64} {b : Byte} (h : execXtpSt1 p a b s = .next s') :
    s₀.Explains s s' := by
  obtain ⟨P, hP, -, h⟩ := software_next h
  split at h
  · split at h
    · cases h; exact .setProc_calm hP (.of_eq rfl rfl rfl)
    · cases h; exact .refl s₀ s
  · cases h

theorem execIntaLd1_explained {a : Word64} (h : execIntaLd1 p a s = .next s') : s₀.Explains s s' := by
  obtain ⟨P, hP, -, h⟩ := software_next h
  split at h
  · split at h
    · cases h; exact .tick (.deliver hP _)
    · cases h
  · cases h

theorem execSrlzD_explained (hi : s₀.performs (.srlzD p)) (h : execSrlzD p s = .next s') :
    s₀.Explains s s' := by
  obtain ⟨P, hP, -, h⟩ := software_next h
  split at h
  · cases h
  next hser =>
    cases h
    exact .setProc hP (.serialize hi hser)

theorem execIoxSelSt4_explained {w : Word32} (h : execIoxSelSt4 p u w s = .next s') :
    s₀.Explains s s' := by
  obtain ⟨P, U, -, -, hU, h⟩ := onUnit_next h
  split at h
  · cases h
  · cases h
    exact .setUnit hU fun hE hE' => .kept (by cases hE.symm.trans hE'; rfl)

theorem execIoxSelLd4_explained (h : execIoxSelLd4 p u s = .next s') : s₀.Explains s s' := by
  obtain ⟨P, U, hP, -, -, h⟩ := onUnit_next h
  cases h
  exact .deliver hP _

theorem execIoxEoiSt4_explained {w : Word32} (hi : s₀.performs (.ioxEoiSt4 p u w))
    (h : execIoxEoiSt4 p u w s = .next s') : s₀.Explains s s' := by
  obtain ⟨P, U, -, -, hU, h⟩ := onUnit_next h
  split at h
  · cases h
  split at h
  · cases h
  · cases h
    refine .setUnit hU fun {n E E'} hE hE' => ?_
    simp only [List.getElem?_map, hE, Option.map_some, Option.some.injEq] at hE'
    exact hE' ▸ .ioEoi hi

theorem execIoxWinLd4Ver_explained (h : execIoxWinLd4Ver p u s = .next s') : s₀.Explains s s' := by
  obtain ⟨P, U, hP, -, -, -, h⟩ := onWindow_next h
  cases h
  exact .deliver hP _

theorem execIoxWinLd4Rtelo_explained (h : execIoxWinLd4Rtelo p u n s = .next s') :
    s₀.Explains s s' := by
  obtain ⟨P, U, E, hP, -, -, -, -, h⟩ := onWindowEntry_next h
  cases h
  exact .tick (.deliver hP _)

theorem execIoxWinSt4Rtelo_explained {w : Word32} (h : execIoxWinSt4Rtelo p u n w s = .next s') :
    s₀.Explains s s' := by
  obtain ⟨P, U, E, -, -, hU, -, hE, h⟩ := onWindowEntry_next h
  split at h
  · cases h
  split at h
  · cases h
  next hstore =>
    cases h
    obtain ⟨x, rfl⟩ := storeLo_ok hstore
    exact .tick (.setEntry hU hE (.kept rfl))

theorem execIoxWinLd4Rtehi_explained (h : execIoxWinLd4Rtehi p u n s = .next s') :
    s₀.Explains s s' := by
  obtain ⟨P, U, E, hP, -, -, -, -, h⟩ := onWindowEntry_next h
  cases h
  exact .deliver hP _

theorem execIoxWinSt4Rtehi_explained {w : Word32} (h : execIoxWinSt4Rtehi p u n w s = .next s') :
    s₀.Explains s s' := by
  obtain ⟨P, U, E, -, -, hU, -, hE, h⟩ := onWindowEntry_next h
  split at h
  · cases h
  · cases h
    exact .setEntry hU hE (.kept rfl)

/-- What an operation changes is explained by its being the next move. -/
theorem exec_explained {i : Instr} (hi : s₀.performs i) (h : exec i s = .next s') :
    s₀.Explains s s' := by
  cases i with
  | movFromLid | movFromIrr0 | movFromTpr | movFromLrr0 | movFromLrr1 =>
    exact readRegDraw_explained h
  | movFromEoi => exact readRegDraw_explained (f := fun _ r => r) h
  | movFromIrr1 | movFromIrr2 | movFromIrr3 | movFromItv | movFromPmv | movFromCmcv =>
    exact readReg_explained h
  | movToLid | movToTpr | movToItv | movToPmv | movToCmcv =>
    exact writeReg_explained h fun _ => .of_eq rfl rfl rfl
  | movToIrr0 | movToIrr1 | movToIrr2 | movToIrr3 | movToIvr => exact writeReadOnly_explained h
  | movToLrr0 =>
    exact writeLrr_explained (f := fun P l => { P with lrr0 := P.lrr0.write l }) h
      fun _ _ => .of_eq rfl rfl rfl
  | movToLrr1 =>
    exact writeLrr_explained (f := fun P l => { P with lrr1 := P.lrr1.write l }) h
      fun _ _ => .of_eq rfl rfl rfl
  | movFromIvr => exact software_setProc_explained h fun _ => .readIvr hi
  | rfi => exact software_setProc_explained h fun _ => .rfi hi
  | ssmIc =>
    exact software_setProc_explained h fun _ => .calm ⟨fun _ hv => hv, rfl, fun _ => rfl⟩
  | movToEoi | ssmI | rsmI => exact software_setProc_explained h fun _ => .calm (.of_eq rfl rfl rfl)
  | srlzD => exact execSrlzD_explained hi h
  | ipiSt8 => exact execIpiSt8_explained h
  | ipiStBad | ipiLd | pibUndef => exact absurd h software_refused_ne_next
  | xtpSt1 => exact execXtpSt1_explained h
  | intaLd1 => exact execIntaLd1_explained h
  | ioxSelSt4 => exact execIoxSelSt4_explained h
  | ioxSelLd4 => exact execIoxSelLd4_explained h
  | ioxIrqaSt4 p u w => exact absurd h (execIoxIrqaSt4_ne_next w)
  | ioxEoiSt4 => exact execIoxEoiSt4_explained hi h
  | ioxWinLd4Ver => exact execIoxWinLd4Ver_explained h
  | ioxWinSt4Ver | ioxWinLd4Undef | ioxWinSt4Undef => exact absurd h onWindow_refused_ne_next
  | ioxWinLd4Rtelo => exact execIoxWinLd4Rtelo_explained h
  | ioxWinSt4Rtelo => exact execIoxWinSt4Rtelo_explained h
  | ioxWinLd4Rtehi => exact execIoxWinLd4Rtehi_explained h
  | ioxWinSt4Rtehi => exact execIoxWinSt4Rtehi_explained h
  | msgInt => exact receiveMsg_explained h Proc.pendInt_calm
  | msgPmi => exact receiveMsg_explained h Proc.pendPmi_calm
  | msgNmi | msgInit | msgExtint => exact receiveMsg_ok_explained h fun _ => .of_eq rfl rfl rfl
  | msgUndef001 | msgUndef011 | msgUndef110 => exact absurd h receiveMsg_error_ne_next

end explainedOperations

/-! ### The moves (R17) -/

section explainedMoves

variable {s₀ s s' : State} {p u n : Nat}

theorem settle_explained {x : SerElem} (hm : s₀.doing (.settle p x)) (h : settle p x s = .next s') :
    s₀.Explains s s' := by
  obtain ⟨P, hP, h⟩ := onProc_next h
  cases x with
  | lid | tpr | itv | pmv | cmcv | lrr0 | lrr1 | psrI | psrIc =>
    cases h; exact .setProc_calm hP (.of_eq rfl rfl rfl)
  | eoi =>
    dsimp only at h
    split at h
    · cases h
    next hq =>
      split at h
      · cases h
      next heoi =>
        cases h
        obtain ⟨v, hv, rfl⟩ := eoiEffect_some heoi
        exact .setProc hP (.settleEoi hm hq hv)

theorem accept_explained (hm : s₀.doing (.accept p)) (h : accept p s = .next s') :
    s₀.Explains s s' := by
  obtain ⟨P, hP, h⟩ := onProc_next h
  split at h
  · split at h
    · cases h; exact .setProc hP (.accept hm _)
    · cases h
  · cases h

theorem takePmi_explained {v : BitVec 4} (h : takePmi p v s = .next s') : s₀.Explains s s' := by
  obtain ⟨P, hP, h⟩ := onProc_next h
  split at h
  · cases h; exact .setProc_calm hP (.of_eq rfl rfl rfl)
  · cases h

theorem takeInit_explained (h : takeInit p s = .next s') : s₀.Explains s s' := by
  obtain ⟨P, hP, h⟩ := onProc_next h
  split at h
  · cases h; exact .setProc_calm hP (.of_eq rfl rfl rfl)
  · cases h

theorem localEvent_explained {lvr : Proc → Lvr} (h : localEvent p s lvr = .next s') :
    s₀.Explains s s' := by
  obtain ⟨P, hP, h⟩ := onProc_next h
  split at h
  · cases h; exact .refl s₀ s
  split at h
  · cases h
  · cases h; exact .setProc_calm hP (P.pendIrr_calm _)

theorem sampleLint_explained {k : LintPin} (hm : s₀.doing (.sampleLint p k))
    (h : sampleLint p k s = .next s') : s₀.Explains s s' := by
  obtain ⟨P, hP, h⟩ := onProc_next h
  split at h
  · cases h
  dsimp only at h
  split at h
  · cases h
  next hsample =>
    cases h
    rcases Proc.sampleLint_cases hsample with hcalm | ⟨hrel, rfl⟩
    · exact .tick (.setProc_calm hP (hcalm.setLint _ _))
    · exact .tick (.setProc hP (.lintReleased hm hrel _))

theorem samplePin_explained (h : samplePin u n s = .next s') : s₀.Explains s s' := by
  obtain ⟨U, E, hU, hE, h⟩ := onEntry_next h
  split at h
  · cases h
  next hsample =>
    cases h
    obtain ⟨x, rfl⟩ := sample_ok hsample
    exact .tick (.setEntry hU hE (.kept rfl))

theorem sendEntry_explained (hm : s₀.doing (.send u n)) (h : sendEntry u n s = .next s') :
    s₀.Explains s s' := by
  obtain ⟨U, E, hU, hE, h⟩ := onEntry_next h
  split at h
  · cases h
    exact (State.Explains.setEntry hU hE (.sent hm)).bookkeeping _ _ _ _
  · cases h

/-- The stores on their way wait for one message less, and keep address, width and data. -/
theorem bridge_explained {m : Msg} (h : bridge m s = .next s') : s₀.Explains s s' := by
  obtain ⟨-, -, t, h⟩ := bridge_next h
  obtain ⟨b, -, rfl⟩ := forward_next h
  exact { State.Explains.refl s₀ s with
    stores := List.forall_mem_map.2 fun x hx => .kept hx rfl rfl rfl }

theorem ipiHint_explained {b : Nat} {m : Msg} (h : ipiHint b m s = .next s') : s₀.Explains s s' := by
  unfold ipiHint at h
  split at h
  case isFalse => cases h
  obtain ⟨-, h⟩ := unlessDuplicate_next h
  split at h
  · split at h
    · cases h
    · obtain ⟨c, -, rfl⟩ := forward_next h
      exact (State.Explains.refl s₀ s).bookkeeping _ _ _ _
  · cases h; exact (State.Explains.refl s₀ s).bookkeeping _ _ _ _

theorem dropMsg_explained {b : Nat} {m : Msg} (h : dropMsg b m s = .next s') : s₀.Explains s s' := by
  unfold dropMsg at h
  split at h
  · obtain ⟨-, h⟩ := unlessDuplicate_next h
    cases h
    exact (State.Explains.refl s₀ s).bookkeeping _ _ _ _
  · cases h

theorem drivePin_explained {level : Bool} (h : drivePin u n level s = .next s') :
    s₀.Explains s s' := by
  obtain ⟨U, E, hU, hE, h⟩ := onEntry_next h
  split at h
  · cases h
  · cases h
    exact .setEntry hU hE (.kept rfl)

theorem driveLint_explained {k : LintPin} {level : Bool} (h : driveLint p k level s = .next s') :
    s₀.Explains s s' := by
  obtain ⟨P, hP, h⟩ := onProc_next h
  split at h
  · cases h
  split at h
  · cases h
  · cases h
    exact .setProc_calm hP ((Proc.Calm.refl P).setLint _ _)

theorem driveDedicated_explained {k : DedicatedPin} {level : Bool}
    (h : driveDedicated p k level s = .next s') : s₀.Explains s s' := by
  obtain ⟨P, hP, h⟩ := onProc_next h
  cases h
  refine .setProc_calm hP ?_
  cases k <;> exact .of_eq rfl rfl rfl

theorem deviceData_explained {a d : Word64} (hm : s₀.doing (.deviceData a n d))
    (h : deviceData a.toNat n d s = .next s') : s₀.Explains s s' := by
  obtain ⟨-, -, hdev, rfl⟩ := deviceData_next h
  exact .addStore (.deviceData hm hdev)

theorem ioBusWrite_explained {a d : Word32} (hm : s₀.doing (.ioBusWrite a d))
    (h : ioBusWrite a d s = .next s') : s₀.Explains s s' := by
  unfold ioBusWrite at h
  split at h
  · split at h
    · cases h
    split at h
    · cases h
    · cases h; exact (State.Explains.refl s₀ s).bookkeeping _ _ _ _
  · obtain ⟨-, -, hdev, rfl⟩ := deviceData_next h
    exact .addStore (.ioBusWrite hm hdev)

theorem deviceMsg_explained {m : Msg} (h : deviceMsg m s = .next s') : s₀.Explains s s' := by
  unfold deviceMsg at h
  split at h
  · cases h
  · cases h; exact (State.Explains.refl s₀ s).bookkeeping _ _ _ _

theorem land_explained {k : Nat} (hm : s₀.doing (.land k)) (h : land k s = .next s') :
    s₀.Explains s s' := by
  obtain ⟨x, hx, rfl⟩ := land_next h
  exact { State.Explains.refl s₀ s with
    mem := .inr ⟨k, x, hm, hx, rfl⟩
    stores := fun y hy => .kept (List.mem_of_mem_eraseIdx hy) rfl rfl rfl }

theorem perform_explained {k : Nat} {l : List (Option Nat)} (h : perform k l s = .next s') :
    s₀.Explains s s' := by
  obtain ⟨x, P, v, -, hP, -, rfl⟩ := perform_next h
  have delivered : s₀.Explains s (s.setProc x.p (P.deliver v)) := .deliver hP v
  exact { delivered with loads := fun y hy => .kept (List.mem_of_mem_eraseIdx hy) }

/-- A store or a load of memory gets on its way. -/
theorem memoryAccess_explained {x : Access} (hm : s₀.doing (.access x)) (hclaim : claim x s = .memory)
    (h : memoryAccess x s = .next s') : s₀.Explains s s' := by
  obtain ⟨P, -, -, h⟩ := software_next h
  split at h
  · cases h
  split at h
  · cases h
  next hdev =>
    rw [Bool.not_eq_true] at hdev
    split at h
    next hstore => cases h; exact .addStore (.access hm hstore hclaim hdev)
    next hload => cases h; exact .addLoad (.access hm (Bool.not_eq_true _ ▸ hload) hclaim hdev)

theorem runAccess_explained {x : Access} (hm : s₀.doing (.access x))
    (hop : ∀ i, (Move.access x).operation s = some i → s₀.performs i) (h : runAccess x s = .next s') :
    s₀.Explains s s' := by
  unfold runAccess at h
  split at h
  next hclaim => exact exec_explained (hop _ (by simp [Move.operation, hclaim])) h
  next hclaim => exact memoryAccess_explained hm hclaim h
  · obtain ⟨P, -, -, h⟩ := software_next h
    cases h
  · exact absurd h software_refused_ne_next

theorem runWords_explained {ws : List Word64}
    (hop : ∀ i, (Move.op ws).operation s = some i → s₀.performs i) (h : runWords ws s = .next s') :
    s₀.Explains s s' := by
  unfold runWords at h
  split at h
  next hdec => exact exec_explained (hop _ (by simp [Move.operation, hdec, Except.toOption])) h
  · cases h

/-- What a move changes is explained by its being the next move. -/
theorem runMove_explained {mv : Move} (hm : s₀.doing mv)
    (hop : ∀ i, mv.operation s = some i → s₀.performs i) (h : runMove mv s = .next s') :
    s₀.Explains s s' := by
  cases mv with
  | op => exact runWords_explained hop h
  | access => exact runAccess_explained hm hop h
  | receive => exact exec_explained (hop _ rfl) h
  | settle => exact settle_explained hm h
  | accept => exact accept_explained hm h
  | takePmi => exact takePmi_explained h
  | takeInit => exact takeInit_explained h
  | sampleLint => exact sampleLint_explained hm h
  | samplePin => exact samplePin_explained h
  | send => exact sendEntry_explained hm h
  | bridge => exact bridge_explained h
  | ipiHint => exact ipiHint_explained h
  | drop => exact dropMsg_explained h
  | drivePin => exact drivePin_explained h
  | driveLint => exact driveLint_explained h
  | driveDedicated => exact driveDedicated_explained h
  | timerEvent | pmuEvent | cmcEvent => exact localEvent_explained h
  | ioBusWrite => exact ioBusWrite_explained hm h
  | deviceMsg => exact deviceMsg_explained h
  | deviceData => exact deviceData_explained hm h
  | land => exact land_explained hm h
  | perform => exact perform_explained h
  | ioBusRead => cases h; exact .refl s₀ s
  | writeIpsr => exact software_setProc_explained h fun _ => .calm (.of_eq rfl rfl rfl)

/-- Which operation a move is does not depend on the agenda. -/
theorem Move.operation_agenda (mv : Move) (s : State) (l : List Move) :
    mv.operation { s with agenda := l } = mv.operation s := by
  cases mv <;> rfl

end explainedMoves

theorem State.performs_of_head {s : State} {mv : Move} {rest : List Move} (hl : s.agenda = mv :: rest)
    {i : Instr} (hi : mv.operation { s with agenda := rest } = some i) : s.performs i :=
  ⟨mv, by simp [State.doing, hl], mv.operation_agenda s rest ▸ hi⟩

/-- Every change that a step makes is one that its next move makes. -/
theorem step_explained {s s' : State} (h : step s = .next s') : s.Explains s s' := by
  rcases step_next h with rfl | ⟨mv, rest, hl, h⟩
  · exact .refl s' s'
  · have moved : s.Explains { s with agenda := rest } s' :=
      runMove_explained (by simp [State.doing, hl]) (fun i => State.performs_of_head hl) h
    exact { moved with
      stores := fun y hy => (moved.stores y hy).of_agenda
      loads := fun y hy => (moved.loads y hy).of_agenda }

/-! ### Vectors pending and in service (R22, R24) -/

/-- A bit that keeps its value is neither set nor cleared, whatever would follow. -/
theorem changes_of_eq {b b' : Bool} {A B : Prop} (h : b' = b) :
    (b = false → b' = true → A) ∧ (b = true → b' = false → B) := by
  subst h
  cases b' <;> simp

/-- An IVR read clears no pending bit but that of the vector it reports (R168). -/
theorem Proc.hpu_of_readIvr_clears {P : Proc} {v : Nat} (hset : P.irr.getLsbD v = true)
    (hclear : P.readIvr.irr.getLsbD v = false) : P.hpu = some v := by
  rcases readIvr_cases P with ⟨-, hread⟩ | ⟨w, hw, hread⟩ <;> rw [hread] at hclear
  · simp [hset] at hclear
  · simp only [Proc.deliver_irr, Proc.markInService_irr, Proc.clearPending] at hclear
    split at hclear
    · simp [hset] at hclear
    split at hclear
    · simp [hset] at hclear
    · rw [getLsbD_writeBit] at hclear
      split at hclear
      next hvw => exact hvw ▸ hw
      · simp [hset] at hclear

/-- After an IVR read that vector is in service which it reports, beside those that were (R168). -/
theorem Proc.readIvr_insvc (P : Proc) (v : Nat) :
    P.readIvr.insvc.getLsbD v = (P.insvc.getLsbD v || decide (P.hpu = some v)) := by
  rcases readIvr_cases P with ⟨hnone, hread⟩ | ⟨w, hw, hread⟩ <;> rw [hread]
  · simp [hnone]
  · obtain ⟨hreport, -⟩ := hpu_some hw
    have hlt : w < 256 := by unfold reportable at hreport; omega
    simp only [Proc.deliver_insvc, Proc.markInService_insvc, Proc.clearPending_insvc, getLsbD_writeBit, hw]
    split
    next hvw => simp [hvw, hlt]
    next hvw => simp [Ne.symm hvw]

/-- With no EOI queued a serialization takes no vector out of service (R184). -/
theorem Proc.serialize_insvc_of_none_queued {P P' : Proc} (h : P.serialize = some P')
    (hq : P.eoiq = 0) : P'.insvc = P.insvc := by
  simp only [Proc.serialize, hq, Proc.eoiEffects, Option.some.injEq] at h
  exact h ▸ rfl

/-- A pin is active where its level differs from the polarity, inactive where it is the same (R291). -/
theorem activeLevel_eq {polarity level b : Bool} :
    activeLevel polarity level = b ↔ level = (b != polarity) := by
  cases polarity <;> cases level <;> cases b <;> decide

/-- Vector `w` pending no more, and a pin updated, clear no bit but `w` (R326). -/
theorem Proc.eq_of_lint_clears (P : Proc) {k : LintPin} {x : Pin} {w v : Nat}
    (hset : P.irr.getLsbD v = true)
    (hclear : ({ P with irr := writeBit P.irr w false }.setLint k x).irr.getLsbD v = false) :
    w = v := by
  rw [Proc.setLint_irr, getLsbD_writeBit] at hclear
  split at hclear
  next hvw => exact hvw.symm
  · simp [hset] at hclear

/-- Settles O54: of the moves that are not calm, an IVR read and the sample of a LINT pin write the IRR. -/
theorem pendingBitCleared : Obligations.PendingBitCleared := by
  intro s s' p v P P' h hP hP' hset hclear
  have unchanged (hirr : P'.irr = P.irr) : False := by simp [hirr, hset] at hclear
  cases (step_explained h).procs hP hP' with
  | calm hcalm => exact absurd (hcalm.pending v hset) (by simp [hclear])
  | readIvr hop => exact .inl ⟨hop, Proc.hpu_of_readIvr_clears hset hclear⟩
  | serialize _ hser =>
    obtain ⟨x, rfl, -⟩ := serialize_some hser
    exact (unchanged rfl).elim
  | settleEoi | rfi | accept => exact (unchanged rfl).elim
  | lintReleased hm hrel x =>
    exact .inr ⟨_, hm, P.eq_of_lint_clears hset hclear, hrel.mode, hrel.level,
      by simpa using activeLevel_eq.1 hrel.before, by simpa using activeLevel_eq.1 hrel.now⟩

/-- Settles O55: of the moves that are not calm, an IVR read, `srlz.d` and the settling of an EOI write the
in-service vectors. -/
theorem inServiceChanges : Obligations.InServiceChanges := by
  intro s s' p v P P' h hP hP'
  cases (step_explained h).procs hP hP' with
  | calm hcalm => exact changes_of_eq (by rw [hcalm.insvc])
  | readIvr hop =>
    rw [Proc.readIvr_insvc]
    exact ⟨fun hout hin => ⟨hop, by simpa [hout] using hin⟩, fun hin => by simp [hin]⟩
  | serialize hop hser =>
    obtain ⟨x, hx, hold⟩ := serialize_some hser
    have hP'x : P'.insvc = x := hx ▸ rfl
    refine ⟨fun hout hin => ?_, fun hin hout => ⟨Nat.pos_of_ne_zero fun hq => ?_, .inl hop⟩⟩
    · simp [hold v (hP'x ▸ hin)] at hout
    · simp [Proc.serialize_insvc_of_none_queued hser hq, hin] at hout
  | settleEoi hm hq hw =>
    dsimp only
    rw [getLsbD_writeBit]
    split
    next hvw => exact ⟨by simp, fun _ _ => ⟨Nat.pos_of_ne_zero hq, .inr ⟨hm, hvw ▸ hw⟩⟩⟩
    · exact changes_of_eq rfl
  | rfi | accept => exact changes_of_eq rfl
  | lintReleased => exact changes_of_eq (by rw [Proc.setLint_insvc])

/-! ### AWAIT (R48) -/

theorem Entry.level_of_teff {E : Entry} (h : E.teff = true) : E.t = true := by
  unfold Entry.teff at h
  split at h
  · cases h
  · exact h

/-- An I/O EOI write clears AWAIT of a level entry with its vector, and sets none (R233). -/
theorem Entry.ioEoi_await (v : Byte) (E : Entry) :
    (E.ioEoi v).await = if E.t = true ∧ E.vector = v then false else E.await := by
  unfold Entry.ioEoi
  split <;> rfl

/-- Settles O56: a send sets AWAIT where the trigger mode in effect is level, an I/O EOI write clears it. -/
theorem awaitChanges : Obligations.AwaitChanges := by
  intro s s' u n U U' E E' h hE hE'
  cases (step_explained h).entries hE hE' with
  | kept hkept => exact changes_of_eq hkept
  | sent hm =>
    rw [Entry.sent_await]
    split
    next hlevel => exact ⟨fun _ _ => ⟨hm, Entry.level_of_teff hlevel⟩, nofun⟩
    · exact changes_of_eq rfl
  | ioEoi hop =>
    rw [Entry.ioEoi_await]
    split
    next hheld => exact ⟨nofun, fun _ _ => ⟨hheld.1, _, _, hop, hheld.2.symm⟩⟩
    · exact changes_of_eq rfl

/-! ### PSR.ic (R31) -/

/-- Settles O57: of the moves that are not calm, acceptance clears PSR.ic and `rfi` restores it. -/
theorem collectionCleared : Obligations.CollectionCleared := by
  intro s s' p P P' h hP hP' hset hclear
  have unchanged (hic : P'.psrIc.arch = P.psrIc.arch) : False := by simp [hic, hset] at hclear
  cases (step_explained h).procs hP hP' with
  | calm hcalm => exact absurd (hcalm.collection hset) (by simp [hclear])
  | readIvr =>
    refine (unchanged ?_).elim
    rcases readIvr_cases P with ⟨-, hread⟩ | ⟨w, -, hread⟩ <;> simp [hread]
  | serialize _ hser =>
    obtain ⟨x, rfl, -⟩ := serialize_some hser
    exact (unchanged rfl).elim
  | settleEoi => exact (unchanged rfl).elim
  | rfi hop => exact .inr ⟨hop, hclear⟩
  | accept hm => exact .inl hm
  | lintReleased => exact (unchanged (by rw [Proc.setLint_psrIc])).elim

/-! ### Ordinary memory (R54, R101) -/

/-- Settles O60: a byte changes where a store lands on it, and accesses get on their way as
`State.StoreStep` and `State.LoadStep` say. -/
theorem memoryWriters : Obligations.MemoryWriters := by
  intro s s' h
  have explained := step_explained h
  refine ⟨fun a ha => ?_, fun y hy => ?_, fun y hy => ?_⟩
  · rcases explained.mem with hmem | ⟨k, x, hm, hx, hmem⟩
    · exact absurd (by rw [hmem]) ha
    · refine ⟨k, x, hm, hx, ?_⟩
      by_contra houtside
      exact ha (by rw [hmem, Memory.readByte_write_outside _ (by omega)])
  · cases explained.stores y hy with
    | kept hz haddr hwidth hdata => exact .inl ⟨_, hz, haddr, hwidth, hdata⟩
    | access hm hstore hclaim hdev => exact .inr (.inl ⟨_, hm, hstore, hclaim, hdev, rfl⟩)
    | deviceData hm hdev => exact .inr (.inr ⟨.inl (by simpa using hm), hdev, rfl⟩)
    | ioBusWrite hm hdev => exact .inr (.inr ⟨.inr ⟨_, _, hm, rfl, rfl, rfl⟩, hdev, rfl⟩)
  · cases explained.loads y hy with
    | kept hy => exact .inl hy
    | access hm hload hclaim hdev => exact .inr ⟨_, hm, hload, hclaim, hdev, rfl⟩

/-- An address outside every window is in no unit's. -/
theorem findUnit_eq_none {a : Nat} {l : List IoUnit} (h : ∀ U ∈ l, U.claims a = false) (k : Nat) :
    findUnit a k l = none := by
  induction l generalizing k with
  | nil => rfl
  | cons U l ih =>
    rw [findUnit, if_neg (by simp [h U (List.mem_cons_self ..)])]
    exact ih (fun V hV => h V (List.mem_cons_of_mem _ hV)) (k + 1)

/-- Below `2^63` an access is one of memory where no device claims its address (R80, R84). -/
theorem claim_eq_memory {x : Access} {s : State} (haddr : x.addr.toNat < 2 ^ 63)
    (hdev : s.deviceByte x.addr.toNat = false) : claim x s = .memory := by
  obtain ⟨hpib, hunits⟩ := deviceByte_eq_false.1 hdev
  have hoffset : pibOffset s.plat x.addr = none := if_neg (by omega)
  rw [claim, if_neg (by omega), hoffset, findUnit_eq_none hunits]

theorem memoryForm_of_aligned {a n : Nat} (hn : n ∈ [1, 2, 4, 8]) (ha : a % n = 0) :
    memoryForm a n = true := by
  simp only [List.mem_cons, List.not_mem_nil, or_false] at hn
  simp [memoryForm, ha, or_assoc, hn]

/-- A naturally aligned access of memory is on its way (R54; log 38). -/
theorem runMove_access_memory {x : Access} {s : State} {P : Proc} (hrun : Running s x.p P)
    (hn : x.width ∈ [1, 2, 4, 8]) (halign : x.addr.toNat % x.width = 0) (haddr : x.addr.toNat < 2 ^ 63)
    (hdev : ∀ k, k < x.width → s.deviceByte (x.addr.toNat + k) = false) :
    runMove (.access x) s = .next (
      if x.store then { s with stores := s.stores ++ [⟨x.addr.toNat, x.width, x.data, none⟩] }
      else { s with loads := s.loads ++ [⟨x.p, x.addr.toNat, x.width⟩] }) := by
  obtain ⟨hP, hflow⟩ := hrun
  have hpos : 0 < x.width := Nat.pos_of_ne_zero (by rintro h0; simp [h0] at hn)
  have hclaim : claim x s = .memory := claim_eq_memory haddr (hdev 0 hpos)
  have hform : memoryForm x.addr.toNat x.width = true := memoryForm_of_aligned hn halign
  have hbytes : s.deviceBytes x.addr.toNat x.width = false := deviceBytes_eq_false.2 hdev
  simp only [runMove, runAccess, hclaim, memoryAccess, software_some _ hP hflow, hform, hbytes,
    Bool.true_eq_false, Bool.false_eq_true, if_false]
  split <;> rfl

theorem land_some {s : State} {k : Nat} {x : PendingStore} (hx : s.stores[k]? = some x) :
    runMove (.land k) s = .next { s with
      mem := s.mem.write x.addr x.width x.data, stores := s.stores.eraseIdx k } := by
  simp [runMove, land, hx]

/-- A load delivers the value whose bytes it sees (log 38). -/
theorem perform_some {s : State} {k : Nat} {x : PendingLoad} {P : Proc} {sees : List (Option Nat)}
    {v : Word64} (hx : s.loads[k]? = some x) (hP : s.procs[x.p]? = some P) (hwidth : x.width ≤ 8)
    (hbytes : ∀ j, j < x.width →
      s.seenByte (x.addr + j) (sees[j]?.getD none) = some (v.extractLsb' (8 * j) 8)) :
    runMove (.perform k sees) s = .next { s.setProc x.p { P with
      result := (v.extractLsb' 0 (8 * x.width)).setWidth 64 } with loads := s.loads.eraseIdx k } := by
  have hread := readWith_eq (fun b => s.seenByte b (sees[b - x.addr]?.getD none)) x.addr x.width v
    hwidth fun j hj => by rw [Nat.add_sub_cancel_left, hbytes j hj]
  simp only [runMove, perform, hx, onProc_some _ hP, hread]
  rfl

/-- A store that does not cover a byte is not seen there. -/
theorem State.seenByte_outside {s : State} {a j : Nat} {x : PendingStore} (h : s.stores[j]? = some x)
    (ha : a < x.addr ∨ x.addr + x.width ≤ a) : s.seenByte a (some j) = s.mem.readByte a := by
  have hcovers : x.covers a = false := by
    simp only [PendingStore.covers, Bool.and_eq_false_iff, decide_eq_false_iff_not]
    omega
  simp [State.seenByte, h, hcovers]

/-- Settles O50: issue, landing, performing, what is seen, and the read-back, which is a landing and then a
load of the same bytes. -/
theorem memoryReadAfterWrite : Obligations.MemoryReadAfterWrite := by
  refine ⟨fun s x P hrun hn halign haddr hdev => ?_, fun s k x hx hwidth => ?_,
    fun s k x P sees v => perform_some, fun s b => ⟨rfl, fun i y hy => ⟨?_, ?_⟩⟩,
    fun s i k x y P hx hy hP hwidth haddr hsame => ?_⟩
  · have issued := runMove_access_memory hrun hn halign haddr hdev
    exact ⟨fun hstore => by rw [issued, if_pos hstore], fun hload => by rw [issued, if_neg (by simp [hload])]⟩
  · exact ⟨_, land_some hx, fun j hj => Memory.readByte_write_inside _ _ _ _ j hj hwidth,
      fun b hb => Memory.readByte_write_outside _ hb⟩
  · exact State.seenByte_some hy
  · exact State.seenByte_outside hy
  · refine ⟨_, land_some hx, ?_⟩
    rw [← hsame]
    refine perform_some hy hP (by omega) fun j hj => ?_
    rw [haddr]
    exact Memory.readByte_write_inside _ _ _ _ j (by omega) (by omega)

/-! ### Settle steps (R33) and reset (R60, R62) -/

/-- Settles O37: the nine elements by the definition of the step, the queued EOI by the cases of the queue
and of what is in service. -/
theorem settleStep : Obligations.SettleStep := by
  intro s p P hP
  have hsettle (x : SerElem) : runMove (.settle p x) s = settle p x s := rfl
  simp only [hsettle, settle, onProc_some _ hP]
  refine ⟨rfl, rfl, rfl, rfl, rfl, rfl, rfl, rfl, rfl, fun hq => if_pos hq, fun k hq htop => ?_,
    fun k v hq htop => ⟨writeBit P.insvc v false, ?_, fun j => ?_⟩⟩
  · simp [hq, Proc.eoiEffect, htop]
  · simp [hq, Proc.eoiEffect, htop]
  · simp [getLsbD_writeBit]

/-- Settles O53: every entry is `Entry.reset`, and every processor is `Proc.reset` of its parameters. -/
theorem resetValues : Obligations.ResetValues := by
  refine fun c => ⟨List.forall_mem_map.2 fun U _ E hE => ?_, fun p P hP => ?_⟩
  · rw [List.eq_of_mem_replicate hE]
    rfl
  · obtain ⟨q, hq, rfl⟩ := Option.map_eq_some_iff.1 (List.getElem?_map ▸ hP)
    refine ⟨?_, rfl, rfl, rfl, rfl, rfl, rfl, rfl, rfl, rfl⟩
    rw [hq]
    exact congrArg some (Proc.reset_lid q).symm

end Sys2Proof.Machine
end

section
/-! SUPPORT. The address map and the traffic of the I/O bus: what each access of the PIB (R83, R92 to R96)
and of a unit's window (R87, R220, R224 to R231) is, and what a device's write on the I/O bus does (R103,
R109, R302). -/

namespace Sys2Proof.Machine

/-! ### Addresses -/

/-- The model's alignment test (R92) is the statements' remainder. -/
theorem extractLsb'_three_eq_zero_iff {w : Nat} (a : BitVec w) :
    a.extractLsb' 0 3 = 0 ↔ a.toNat % 8 = 0 := by
  simp [← BitVec.toNat_inj]

theorem pibOffset_inside {c : Platform} {a : Word64} (hlow : c.pibBase.toNat ≤ a.toNat)
    (hhigh : a.toNat < c.pibBase.toNat + 0x200000) :
    pibOffset c a = some (a.toNat - c.pibBase.toNat) :=
  if_pos ⟨hlow, hhigh⟩

theorem pibOffset_outside {c : Platform} {a : Word64}
    (h : a.toNat < c.pibBase.toNat ∨ c.pibBase.toNat + 0x200000 ≤ a.toNat) : pibOffset c a = none :=
  if_neg (by omega)

/-! ### The Processor Interrupt Block (R83, R92 to R96, R262, R263, R266) -/

section pib
variable {c : Platform} {x : Access} {o : Nat}

theorem pibInstr_deliveryStore (ho : o < 0x100000) (hstore : x.store = true) :
    pibInstr c x o = if x.width = 8 ∧ x.addr.toNat % 8 = 0 then .ipiSt8 x.p x.addr x.data
      else .ipiStBad x.p x.addr x.width x.data := by
  simp only [pibInstr, ho, hstore, if_true, extractLsb'_three_eq_zero_iff]

theorem pibInstr_deliveryLoad (ho : o < 0x100000) (hload : x.store = false) :
    pibInstr c x o = .ipiLd x.p x.addr x.width := by
  simp only [pibInstr, ho, hload, Bool.false_eq_true, if_true, if_false]

theorem pibInstr_upper (ho : 0x100000 ≤ o) :
    pibInstr c x o =
      if o = c.xtpOffset ∧ x.width = 1 ∧ x.store = true then .xtpSt1 x.p x.addr (x.data.setWidth 8)
      else if o = c.intaOffset ∧ x.width = 1 ∧ x.store = false then .intaLd1 x.p x.addr
      else .pibUndef x.p x.addr x.width x.store x.data :=
  if_neg (by omega)

/-- The PIB of a well-formed platform lies below `2^63` (R80), so its claim comes first. -/
theorem claim_pib {s : State} (hwf : s.plat.Wf) (hlow : s.plat.pibBase.toNat ≤ x.addr.toNat)
    (hhigh : x.addr.toNat < s.plat.pibBase.toNat + 0x200000) :
    claim x s = if x.cacheable then .refuse .cacheableDeviceAccess
      else .instr (pibInstr s.plat x (x.addr.toNat - s.plat.pibBase.toNat)) := by
  obtain ⟨-, hend, -⟩ := hwf
  rw [claim, if_neg (by omega), pibOffset_inside hlow hhigh]

end pib

/-- Settles O6: by the megabyte the offset lies in, then by the form of the access. -/
theorem pibAddressMap : Obligations.PibAddressMap := by
  intro s x hwf hlow hhigh
  refine ⟨fun hcache => by rw [claim_pib hwf hlow hhigh, if_pos hcache], fun hcache => ?_⟩
  rw [claim_pib hwf hlow hhigh, if_neg (by simp [hcache])]
  refine ⟨fun hdelivery => ?_, fun hupper => ?_⟩
  · have ho : x.addr.toNat - s.plat.pibBase.toNat < 0x100000 := by omega
    refine ⟨fun hstore hwidth halign => ?_, fun hstore hform => ?_, fun hload => ?_⟩
    · rw [pibInstr_deliveryStore ho hstore, if_pos ⟨hwidth, halign⟩]
    · rw [pibInstr_deliveryStore ho hstore, if_neg hform]
    · rw [pibInstr_deliveryLoad ho hload]
  · have ho : 0x100000 ≤ x.addr.toNat - s.plat.pibBase.toNat := by omega
    have hbyte (k : Nat) : x.addr.toNat - s.plat.pibBase.toNat = k ↔
        x.addr.toNat = s.plat.pibBase.toNat + k := by omega
    simp only [pibInstr_upper ho, hbyte]
    refine ⟨fun hxtp hwidth hstore => ?_, fun hinta hwidth hload => ?_, fun hxtp hinta => ?_⟩
    · rw [if_pos ⟨hxtp, hwidth, hstore⟩]
    · rw [if_neg (by simp [hload]), if_pos ⟨hinta, hwidth, hload⟩]
    · rw [if_neg hxtp, if_neg hinta]

/-! ### The window of an I/O xAPIC unit (R87, R127, R220 to R231) -/

/-- The lowest-numbered unit whose window holds the address claims it (log 23). -/
theorem findUnit_eq_some {a u : Nat} {l : List IoUnit} {U : IoUnit} (hU : l[u]? = some U)
    (hclaims : U.claims a = true)
    (hleast : ∀ (j : Nat) (V : IoUnit), l[j]? = some V → V.claims a = true → u ≤ j) (k : Nat) :
    findUnit a k l = some (k + u, U) := by
  induction l generalizing u k with
  | nil => cases hU
  | cons V l ih =>
    cases u with
    | zero =>
      cases hU
      exact if_pos hclaims
    | succ u =>
      have hV : ¬ V.claims a = true := fun hV => absurd (hleast 0 V rfl hV) (by omega)
      rw [findUnit, if_neg hV, ih hU (fun j W hW hclaim => Nat.le_of_succ_le_succ (hleast (j + 1) W hW hclaim)),
        Nat.add_right_comm]
      rfl

theorem claim_unit {x : Access} {s : State} {u : Nat} {U : IoUnit} (hU : s.units[u]? = some U)
    (halone : ∀ (k : Nat) (V : IoUnit), s.units[k]? = some V → V.claims x.addr.toNat = true → k = u)
    (hlow : U.base.toNat ≤ x.addr.toNat) (hhigh : x.addr.toNat < U.base.toNat + 256)
    (haddr : x.addr.toNat < 2 ^ 63) (hpib : pibOffset s.plat x.addr = none) :
    claim x s = ioxAccess x u U := by
  have hclaims : U.claims x.addr.toNat = true := by simp [IoUnit.claims, hlow, hhigh]
  have hfind : findUnit x.addr.toNat 0 s.units = some (u, U) := by
    rw [findUnit_eq_some hU hclaims (fun j V hV hclaim => (halone j V hV hclaim).ge), Nat.zero_add]
  rw [claim, if_neg (by omega), hpib, hfind]

section window
variable {x : Access} {u : Nat} {U : IoUnit}

theorem ioxAccess_cacheable (hcache : x.cacheable = true) :
    ioxAccess x u U = .refuse .cacheableDeviceAccess := if_pos hcache

theorem ioxAccess_partial (hcache : x.cacheable = false) (hform : ¬ (x.width = 4 ∧ x.addr.toNat % 4 = 0)) :
    ioxAccess x u U = .refuse .partialIoxAccess := by
  rw [ioxAccess, if_neg (by simp [hcache]), if_pos (by omega)]

/-- A whole, aligned, uncacheable access is told by its offset alone (R87). -/
theorem ioxAccess_offset {o : Nat} (hcache : x.cacheable = false) (hwidth : x.width = 4)
    (halign : x.addr.toNat % 4 = 0) (ho : x.addr.toNat = U.base.toNat + o) :
    ioxAccess x u U =
      if o = 0x00 then .instr (if x.store then .ioxSelSt4 x.p u (x.data.setWidth 32) else .ioxSelLd4 x.p u)
      else if o = 0x10 then .instr (windowInstr x.p u U x.store (x.data.setWidth 32))
      else if o = 0x20 ∧ x.store = true then .instr (.ioxIrqaSt4 x.p u (x.data.setWidth 32))
      else if o = 0x40 ∧ x.store = true then .instr (.ioxEoiSt4 x.p u (x.data.setWidth 32))
      else .refuse .undefinedIoxOffset := by
  rw [ioxAccess, if_neg (by simp [hcache]), if_neg (by simp [hwidth, halign]), ho, Nat.add_sub_cancel_left]

end window

/-! ### Behind the I/O Window: the selected index (R127, R224 to R231) -/

section selected
variable {p u n : Nat} {U : IoUnit} {w : Word32} (store : Bool)

theorem windowInstr_version (hsel : U.sel = 1) :
    windowInstr p u U store w = if store then .ioxWinSt4Ver p u w else .ioxWinLd4Ver p u :=
  if_pos (by rw [hsel]; rfl)

theorem windowInstr_lowHalf (hn : n < U.entries.length) (hsel : U.sel.toNat = 0x10 + 2 * n) :
    windowInstr p u U store w = if store then .ioxWinSt4Rtelo p u n w else .ioxWinLd4Rtelo p u n := by
  have hentry : (U.sel.toNat - 16) / 2 = n := by omega
  simp only [windowInstr, hentry]
  rw [if_neg (by omega), if_neg (by omega), if_pos (by omega)]

theorem windowInstr_highHalf (hn : n < U.entries.length) (hsel : U.sel.toNat = 0x11 + 2 * n) :
    windowInstr p u U store w = if store then .ioxWinSt4Rtehi p u n w else .ioxWinLd4Rtehi p u n := by
  have hentry : (U.sel.toNat - 16) / 2 = n := by omega
  simp only [windowInstr, hentry]
  rw [if_neg (by omega), if_neg (by omega), if_neg (by omega)]

/-- An index from `0x10` up is a half of the entry `(x - 16) / 2`, so the unit has none of that number. -/
theorem windowInstr_undefined (hversion : U.sel ≠ 1)
    (hentries : ∀ k, k < U.entries.length → U.sel.toNat ≠ 0x10 + 2 * k ∧ U.sel.toNat ≠ 0x11 + 2 * k) :
    windowInstr p u U store w =
      if store then .ioxWinSt4Undef p u U.sel w else .ioxWinLd4Undef p u U.sel := by
  have hone : U.sel.toNat ≠ 1 := fun h => hversion (BitVec.eq_of_toNat_eq h)
  have hnone : U.sel.toNat < 16 ∨ U.entries.length ≤ (U.sel.toNat - 16) / 2 := by
    by_contra h
    have := hentries ((U.sel.toNat - 16) / 2) (by omega)
    omega
  simp only [windowInstr]
  rw [if_neg hone, if_pos hnone]

end selected

/-! ### Beyond the physical address space (R54, R80) -/

theorem claim_nowhere {x : Access} {s : State} (haddr : 2 ^ 63 ≤ x.addr.toNat) : claim x s = .nowhere :=
  if_pos haddr

theorem runMove_access_nowhere {x : Access} {s : State} {P : Proc} (hrun : Running s x.p P)
    (haddr : 2 ^ 63 ≤ x.addr.toNat) :
    runMove (.access x) s = .fault (.noSuchAddress x.addr.toNat) := by
  obtain ⟨hP, hflow⟩ := hrun
  simp only [runMove, runAccess, claim_nowhere haddr, software_some _ hP hflow]

/-- Settles O7: by the form and the offset of the access, by the end of the address space, and by the index
that the unit selects. -/
theorem ioxAddressMap : Obligations.IoxAddressMap := by
  refine ⟨fun s x u U hU halone hlow hhigh haddr hpib => ?_,
    fun s x P hrun haddr => ⟨claim_nowhere haddr, runMove_access_nowhere hrun haddr⟩,
    fun p u n U w => ⟨?_, ?_, ?_, ?_⟩⟩
  · rw [claim_unit hU halone hlow hhigh haddr hpib]
    refine ⟨ioxAccess_cacheable, ioxAccess_partial, fun hcache hwidth halign => ?_⟩
    obtain ⟨o, ho⟩ := Nat.exists_eq_add_of_le hlow
    rw [ioxAccess_offset hcache hwidth halign ho]
    refine ⟨fun hsel => ?_, fun hwin => ?_, fun hirqa hstore => ?_, fun heoi hstore => ?_,
      fun hsel hwin hirqa heoi => ?_⟩
    · rw [if_pos (by omega)]
    · rw [if_neg (by omega), if_pos (by omega)]
    · rw [if_neg (by omega), if_neg (by omega), if_pos ⟨by omega, hstore⟩]
    · rw [if_neg (by omega), if_neg (by omega), if_neg (by omega), if_pos ⟨by omega, hstore⟩]
    · rw [if_neg (by omega), if_neg (by omega), if_neg fun h => hirqa ⟨by omega, h.2⟩,
        if_neg fun h => heoi ⟨by omega, h.2⟩]
  · exact fun hsel => ⟨windowInstr_version false hsel, windowInstr_version true hsel⟩
  · exact fun hn hsel => ⟨windowInstr_lowHalf false hn hsel, windowInstr_lowHalf true hn hsel⟩
  · exact fun hn hsel => ⟨windowInstr_highHalf false hn hsel, windowInstr_highHalf true hn hsel⟩
  · exact fun hversion hentries =>
      ⟨windowInstr_undefined false hversion hentries, windowInstr_undefined true hversion hentries⟩

/-! ### Data on the I/O bus (R84, R103; log 25, log 29) -/

theorem memoryForm_iff {a n : Nat} : memoryForm a n = true ↔ n ∈ [1, 2, 4, 8] ∧ a % n = 0 := by
  simp [memoryForm, or_assoc]

theorem deviceBytes_iff {s : State} {a n : Nat} :
    s.deviceBytes a n = true ↔ ∃ k, k < n ∧ s.deviceByte (a + k) = true := by
  simp only [State.deviceBytes, List.any_eq_true, List.mem_range]

section deviceData
variable {a n : Nat} {d : Word64} {s : State}

theorem deviceData_nowhere (haddr : 2 ^ 63 ≤ a) : deviceData a n d s = .fault (.noSuchAddress a) :=
  if_pos haddr

theorem deviceData_misformed (haddr : a < 2 ^ 63) (hform : ¬ (n ∈ [1, 2, 4, 8] ∧ a % n = 0)) :
    deviceData a n d s = .refused .memoryAccessForm := by
  rw [deviceData, if_neg (by omega), if_pos (Bool.eq_false_iff.2 (mt memoryForm_iff.1 hform))]

/-- A well-formed write below `2^63` is told by whether a device claims one of its bytes. -/
theorem deviceData_formed (haddr : a < 2 ^ 63) (hn : n ∈ [1, 2, 4, 8]) (halign : a % n = 0) :
    deviceData a n d s = if s.deviceBytes a n then .refused .ioBusWriteToDevice
      else .next { s with stores := s.stores ++ [⟨a, n, d, some s.ioBus.length⟩] } := by
  rw [deviceData, if_neg (by omega), if_neg (by simp [memoryForm_of_aligned hn halign])]

theorem deviceData_device (haddr : a < 2 ^ 63) (hn : n ∈ [1, 2, 4, 8]) (halign : a % n = 0)
    (hdev : ∃ k, k < n ∧ s.deviceByte (a + k) = true) :
    deviceData a n d s = .refused .ioBusWriteToDevice := by
  rw [deviceData_formed haddr hn halign, if_pos (deviceBytes_iff.2 hdev)]

theorem deviceData_issued (haddr : a < 2 ^ 63) (hn : n ∈ [1, 2, 4, 8]) (halign : a % n = 0)
    (hdev : ∀ k, k < n → s.deviceByte (a + k) = false) :
    deviceData a n d s = .next { s with stores := s.stores ++ [⟨a, n, d, some s.ioBus.length⟩] } := by
  rw [deviceData_formed haddr hn halign, if_neg (by simp [deviceBytes_eq_false.2 hdev])]

end deviceData

/-! ### Messages on the I/O bus (R109, R137, R302; log 29, log 37) -/

theorem dmUndefinedRte_iff {dm : DMode} : dmUndefinedRte dm = true ↔ dm ∈ [0b011#3, 0b110#3] := by
  simp [dmUndefinedRte]

section ioBusWrite
variable {ad data : Word32} {s : State}

theorem ioBusWrite_pib (hlow : s.plat.pibBase.toNat ≤ ad.toNat)
    (hhigh : ad.toNat < s.plat.pibBase.toNat + 0x200000) :
    ioBusWrite ad data s =
      if s.plat.pibBase.toNat + 0x100000 ≤ ad.toNat ∨ ad.toNat % 8 ≠ 0 then .refused .malformedIoBusMessage
      else if dmUndefinedRte (data.extractLsb' 8 3) then .refused .undefinedDeliveryMode
      else .next (s.sendIo (ioBusMsg ad data)) := by
  have hwide : (ad.setWidth 64).toNat = ad.toNat := BitVec.toNat_setWidth_of_le (by decide)
  have hoffset : pibOffset s.plat (ad.setWidth 64) = some (ad.toNat - s.plat.pibBase.toNat) := by
    rw [pibOffset_inside (by rwa [hwide]) (by rwa [hwide]), hwide]
  have hupper : 0x100000 ≤ ad.toNat - s.plat.pibBase.toNat ↔
      s.plat.pibBase.toNat + 0x100000 ≤ ad.toNat := by omega
  simp only [ioBusWrite, hoffset, hupper, ne_eq, extractLsb'_three_eq_zero_iff]

theorem ioBusWrite_outside
    (h : ad.toNat < s.plat.pibBase.toNat ∨ s.plat.pibBase.toNat + 0x200000 ≤ ad.toNat) :
    ioBusWrite ad data s = deviceData ad.toNat 4 (data.setWidth 64) s := by
  have hwide : (ad.setWidth 64).toNat = ad.toNat := BitVec.toNat_setWidth_of_le (by decide)
  rw [ioBusWrite, pibOffset_outside (by rwa [hwide])]

end ioBusWrite

theorem deviceMsg_defined {m : Msg} {s : State} (hdm : m.dm ∉ [0b011#3, 0b110#3]) :
    deviceMsg m s = .next (s.sendIo { m with dm := fixedMode m.dm }) :=
  if_neg (mt dmUndefinedRte_iff.1 hdm)

theorem deviceMsg_undefined {m : Msg} {s : State} (hdm : m.dm ∈ [0b011#3, 0b110#3]) :
    deviceMsg m s = .refused .undefinedDeliveryMode :=
  if_pos (dmUndefinedRte_iff.2 hdm)

theorem bridge_waits {m : Msg} {s : State} (h : s.waitsForData (s.ioBus.idxOf m) = true) :
    bridge m s = .fault .notEnabled :=
  if_neg (by simp [h])

/-- Settles O49: a 32-bit write by where it lies, data by its form and its bytes, then the environment's
records and the order at the bridge. -/
theorem ioBusTraffic : Obligations.IoBusTraffic := by
  intro s ad data _
  have haddr : ad.toNat < 2 ^ 63 := ad.isLt.trans (by decide)
  have hfour : 4 ∈ [1, 2, 4, 8] := by decide
  refine ⟨fun hlow hhigh halign => ⟨fun hdm => ?_, fun hdm => ?_⟩, fun hlow hhigh hbad => ?_,
    fun hout => ⟨fun halign => ?_, fun halign hdev => ?_⟩, fun halign hdev => ?_,
    fun a n d => ⟨fun ha hn halign => ?_, deviceData_misformed, deviceData_nowhere⟩,
    fun m hdata => bridge_waits (State.waitsForData_iff.2 hdata), fun m => deviceMsg_defined,
    fun m => deviceMsg_undefined, rfl⟩
  · refine (ioBusWrite_pib hlow (by omega)).trans ?_
    rw [if_neg (by omega), if_neg (mt dmUndefinedRte_iff.1 hdm)]
    rfl
  · refine (ioBusWrite_pib hlow (by omega)).trans ?_
    rw [if_neg (by omega), if_pos (dmUndefinedRte_iff.2 hdm)]
  · exact (ioBusWrite_pib hlow hhigh).trans (if_pos hbad)
  · exact (ioBusWrite_outside hout).trans (deviceData_misformed haddr fun h => halign h.2)
  · exact (ioBusWrite_outside hout).trans (deviceData_device haddr hfour halign hdev)
  · have hout := (deviceByte_eq_false.1 (hdev 0 (by decide))).1
    exact (ioBusWrite_outside hout).trans (deviceData_issued haddr hfour halign hdev)
  · exact ⟨deviceData_issued ha hn halign, deviceData_device ha hn halign⟩

end Sys2Proof.Machine
end

section
/-! SUPPORT. The operation words (log 1) and the obligations of `30_encoding.md`.

For each format of R145: what its words are read as, and that whatever it reads is well-formed and has
these words (`Instr.SpelledAt`). The message words of R133 to R136 are layouts over any upper part, which
the words of format `MSG`, the IPI store and the I/O bus write share. -/

namespace Sys2Proof

open Machine

/-! ### Message words (R133 to R136) -/

section layout
variable {k : Nat} (x : BitVec k) (id eid v : Byte) (dm : DMode) (h t : Bool)

theorem address_signature :
    (x ++ id ++ eid ++ BitVec.ofBool h ++ 0#3).extractLsb' 20 k = x := by
  simp [BitVec.extractLsb'_append_eq_of_le]

theorem address_id :
    (x ++ id ++ eid ++ BitVec.ofBool h ++ 0#3).extractLsb' 12 8 = id := by
  simp [BitVec.extractLsb'_append_eq_of_le, BitVec.extractLsb'_append_eq_of_add_le]

theorem address_eid : (x ++ eid ++ BitVec.ofBool h ++ 0#3).extractLsb' 4 8 = eid := by
  simp [BitVec.extractLsb'_append_eq_of_le, BitVec.extractLsb'_append_eq_of_add_le]

theorem address_hint : (x ++ BitVec.ofBool h ++ 0#3).getLsbD 3 = h := by
  simp only [BitVec.getLsbD_append]
  simp

theorem data_vector : (x ++ v).extractLsb' 0 8 = v :=
  BitVec.extractLsb'_append_eq_right

theorem data_mode : (x ++ dm ++ v).extractLsb' 8 3 = dm := by
  simp [BitVec.extractLsb'_append_eq_of_le, BitVec.extractLsb'_append_eq_of_add_le]

theorem data_trigger : (x ++ BitVec.ofBool t ++ 0#4 ++ dm ++ v).getLsbD 15 = t := by
  simp only [BitVec.getLsbD_append]
  simp

/-- The low 20 bits of an aligned base, cut as the fields of an address. -/
theorem append_zero_fields :
    (x ++ 0#20 : BitVec (k + 20)) = x ++ 0#8 ++ 0#8 ++ 0#1 ++ 0#3 :=
  BitVec.eq_of_toNat_eq (by simp [BitVec.toNat_append, ← Nat.shiftLeft_add])

/-- The fields meet zeros only, so the sum carries nothing. -/
theorem address_add :
    (x ++ 0#8 ++ 0#8 ++ 0#1 ++ 0#3) + (0#k ++ id ++ eid ++ BitVec.ofBool h ++ 0#3) =
      x ++ id ++ eid ++ BitVec.ofBool h ++ 0#3 := by
  rw [BitVec.add_eq_or_of_and_eq_zero] <;> simp [BitVec.or_append, BitVec.and_append]

end layout

theorem ipiAddress_eq_append {base : Word64} (hbase : base.extractLsb' 0 20 = 0) (id eid : Byte)
    (h : Bool) :
    ipiAddress base id eid h = base.extractLsb' 20 44 ++ id ++ eid ++ bitField h ++ 0#3 := by
  have hsplit : base.extractLsb' 20 44 ++ base.extractLsb' 0 20 = base :=
    BitVec.extractLsb'_append_extractLsb' (w := 44) (len := 20)
  have hfields : base = base.extractLsb' 20 44 ++ 0#8 ++ 0#8 ++ 0#1 ++ 0#3 := by
    rw [hbase] at hsplit
    exact hsplit.symm.trans (append_zero_fields _)
  exact (congrArg (· + _) hfields).trans (address_add ..)

/-- Settles O4: field by field, the IPI address as the base's upper part with the fields below it. -/
theorem messageSpellings : Obligations.MessageSpellings := by
  intro base m hbase
  rw [ipiAddress_eq_append hbase]
  refine ⟨?ipiStore, ?ioBusWrite, BitVec.extractLsb'_append_eq_right, address_signature ..⟩
  case ipiStore =>
    unfold ipiMsg
    congr 1
    · exact address_id ..
    · exact address_eid ..
    · exact address_hint ..
    · exact data_mode ..
    · exact data_vector ..
  case ioBusWrite =>
    unfold ioBusMsg
    congr 1
    · exact address_id ..
    · exact address_eid ..
    · exact address_hint ..
    · exact congrArg fixedMode (data_mode ..)
    · exact data_vector ..
    · exact data_trigger ..

theorem msgKey_mode (dm : DMode) (m : MsgBody) : (msgKey dm m).extractLsb' 8 3 = dm :=
  data_mode ..

theorem decodeMsgBody_msgKey (dm : DMode) (m : MsgBody) :
    decodeMsgBody (msgKey dm m) (msgDatum m) = m := by
  unfold decodeMsgBody
  congr 1
  · exact address_id ..
  · exact address_eid ..
  · exact address_hint ..
  · exact data_vector ..
  · exact data_trigger ..

/-! ### Checks and words -/

/-- `i` has words on platform `c`, and they are `ws`. -/
def Instr.SpelledAt (c : Platform) (i : Instr) (ws : List Word64) : Prop :=
  i.wellFormedAt c = true ∧ encodeAt c i = ws

theorem need_eq_ok {b : Bool} {e : DecodeError} {x : Except DecodeError Instr} {i : Instr} :
    need b e x = .ok i ↔ b = true ∧ x = .ok i := by
  cases b <;> simp [need]

theorem need_of {b : Bool} {e : DecodeError} {x : Except DecodeError Instr} (h : b = true) :
    need b e x = x :=
  if_pos h

section words
variable {c : Platform} {i : Instr} {key datum : Word64} {fmt n p u : Nat}

theorem toNat_ofNat_of_indexOk {k : Nat} (h : indexOk k = true) : (BitVec.ofNat 64 k).toNat = k :=
  Nat.mod_eq_of_lt ((Laws.EncodeShape.index_lt h).trans (by decide))

theorem toNat_ofNat_of_widthOk (h : widthOk n = true) : (BitVec.ofNat 64 n).toNat = n :=
  toNat_ofNat_of_indexOk h

/-- Numbers that fit their words are read back (log 1). -/
theorem decodeAt_opWords (hfmt : indexOk fmt = true) (hn : widthOk n = true) (hp : indexOk p = true)
    (hu : indexOk u = true) :
    decodeAt c (opWords fmt key datum n p u) = decodeFormat c fmt key datum n p u := by
  simp only [opWords, decodeAt, toNat_ofNat_of_indexOk hfmt, toNat_ofNat_of_widthOk hn,
    toNat_ofNat_of_indexOk hp, toNat_ofNat_of_indexOk hu]
  exact need_of (by simp [hn, hp, hu])

theorem decodeAt_eq_ok {ws : List Word64} (h : decodeAt c ws = .ok i) :
    ∃ fmt key datum n p u, ws = opWords fmt key datum n p u ∧
      decodeFormat c fmt key datum n p u = .ok i ∧
      widthOk n = true ∧ indexOk p = true ∧ indexOk u = true := by
  unfold decodeAt at h
  split at h
  · obtain ⟨hfit, hformat⟩ := need_eq_ok.1 h
    simp only [Bool.and_eq_true] at hfit
    obtain ⟨⟨hp, hu⟩, hn⟩ := hfit
    exact ⟨_, _, _, _, _, _, by simp [opWords], hformat, hn, hp, hu⟩
  · cases h

end words

/-! ### The formats (R145) -/

section formats
variable {c : Platform} {i : Instr} {fmt : Nat} (key datum : Word64) (n p u : Nat)

theorem decodeFormat_crRd : decodeFormat c fmtCrRd key datum n p u =
    need (datum == 0 && u == 0) .strayBits
      (need (n == 8) .badWidth (decodeCr c.crIndex key.toNat (crRead p))) := rfl

theorem decodeFormat_crWr : decodeFormat c fmtCrWr key datum n p u =
    need (u == 0) .strayBits
      (need (n == 8) .badWidth (decodeCr c.crIndex key.toNat (crWrite p datum))) := rfl

theorem decodeFormat_psr : decodeFormat c fmtPsr key datum n p u =
    need (datum == 0 && u == 0) .strayBits (need (n == 0) .badWidth (decodePsr key.toNat p)) := rfl

theorem decodeFormat_ser : decodeFormat c fmtSer key datum n p u =
    need (key == 0 && datum == 0 && u == 0) .strayBits (need (n == 0) .badWidth (.ok (.srlzD p))) := rfl

theorem decodeFormat_ret : decodeFormat c fmtRet key datum n p u =
    need (key == 0 && datum == 0 && u == 0) .strayBits (need (n == 0) .badWidth (.ok (.rfi p))) := rfl

theorem decodeFormat_pibSt8 : decodeFormat c fmtPibSt8 key datum n p u =
    need (u == 0) .strayBits (decodePibSt8 c key datum n p) := rfl

theorem decodeFormat_pibLd : decodeFormat c fmtPibLd key datum n p u =
    need (u == 0) .strayBits (decodePibLd c key datum n p) := rfl

theorem decodeFormat_pibSt1 : decodeFormat c fmtPibSt1 key datum n p u =
    need (u == 0 && datum == (datum.setWidth 8).setWidth 64) .strayBits
      (need (n == 1) .badWidth
        (need (key == c.xtpAddress) .badAddress (.ok (.xtpSt1 p key (datum.setWidth 8))))) := rfl

theorem decodeFormat_pibLd1 : decodeFormat c fmtPibLd1 key datum n p u =
    need (u == 0 && datum == 0) .strayBits
      (need (n == 1) .badWidth (need (key == c.intaAddress) .badAddress (.ok (.intaLd1 p key)))) := rfl

theorem decodeFormat_ioxLd4 : decodeFormat c fmtIoxLd4 key datum n p u =
    need (datum == 0) .strayBits (need (n == 4) .badWidth (decodeIoxLd4 key.toNat p u)) := rfl

theorem decodeFormat_ioxSt4 : decodeFormat c fmtIoxSt4 key datum n p u =
    need (datum == (datum.setWidth 32).setWidth 64) .strayBits
      (need (n == 4) .badWidth (decodeIoxSt4 key.toNat p u (datum.setWidth 32))) := rfl

theorem decodeFormat_ioxWinLd : decodeFormat c fmtIoxWinLd key datum n p u =
    need (datum == 0) .strayBits (need (n == 4) .badWidth
      (need (decide (key.toNat < 256)) .badOffset (.ok (decodeIoxWinLd key.toNat p u)))) := rfl

theorem decodeFormat_ioxWinSt : decodeFormat c fmtIoxWinSt key datum n p u =
    need (datum == (datum.setWidth 32).setWidth 64) .strayBits (need (n == 4) .badWidth
      (need (decide (key.toNat < 256)) .badOffset
        (.ok (decodeIoxWinSt key.toNat p u (datum.setWidth 32))))) := rfl

theorem decodeFormat_msg : decodeFormat c fmtMsg key datum n p u =
    need (u == 0) .strayBits (need (n == 0) .badWidth (decodeMsg key datum p)) := rfl

/-- No other format number reads as an operation. -/
theorem format_of_decodeFormat {key datum : Word64} {n p u : Nat}
    (h : decodeFormat c fmt key datum n p u = .ok i) :
    fmt = fmtCrRd ∨ fmt = fmtCrWr ∨ fmt = fmtPsr ∨ fmt = fmtSer ∨ fmt = fmtRet ∨ fmt = fmtPibSt8 ∨
      fmt = fmtPibLd ∨ fmt = fmtPibSt1 ∨ fmt = fmtPibLd1 ∨ fmt = fmtIoxLd4 ∨ fmt = fmtIoxSt4 ∨
      fmt = fmtIoxWinLd ∨ fmt = fmtIoxWinSt ∨ fmt = fmtMsg := by
  by_contra hfmt
  simp only [not_or] at hfmt
  simp only [decodeFormat, hfmt, if_false, reduceCtorEq] at h

end formats

/-! ### Control registers (R140) -/

section controlRegisters
variable {c : Platform} {i : Instr} {x : CrName} {k p : Nat} {w : Word64}

theorem CrName.mem_all (x : CrName) : x ∈ CrName.all := by
  cases x <;> decide

theorem CrIndex.num_of_find (ci : CrIndex) (h : ci.find k = some x) : (ci.num x).toNat = k := by
  simpa using List.find?_some h

theorem CrIndex.find_num {ci : CrIndex} (hdist : ci.Distinct) (x : CrName) :
    ci.find (ci.num x).toNat = some x := by
  cases hfind : ci.find (ci.num x).toNat with
  | none => exact absurd (List.find?_eq_none.1 hfind x x.mem_all) (by simp)
  | some y => rw [hdist y x (BitVec.eq_of_toNat_eq (ci.num_of_find hfind))]

theorem decodeCr_num {ci : CrIndex} (hdist : ci.Distinct) (x : CrName) (f : CrName → Instr) :
    decodeCr ci ((ci.num x).setWidth 64 : Word64).toNat f = .ok (f x) := by
  rw [BitVec.toNat_setWidth_of_le (by decide), decodeCr, ci.find_num hdist]

theorem decodeCr_eq_ok {ci : CrIndex} {f : CrName → Instr} {key : Word64}
    (h : decodeCr ci key.toNat f = .ok i) : ∃ x, i = f x ∧ (ci.num x).setWidth 64 = key := by
  unfold decodeCr at h
  split at h
  next x hfind =>
    refine ⟨x, (Except.ok.inj h).symm, BitVec.eq_of_toNat_eq ?_⟩
    rw [BitVec.toNat_setWidth_of_le (by decide), ci.num_of_find hfind]
  next => cases h

theorem crRead_spelled (x : CrName) (hp : indexOk p = true) :
    (crRead p x).SpelledAt c (crRdWords (c.crIndex.num x) p) := by
  cases x <;> exact ⟨hp, rfl⟩

theorem crWrite_spelled (x : CrName) (hp : indexOk p = true) :
    (crWrite p w x).SpelledAt c (crWrWords (c.crIndex.num x) p w) := by
  cases x <;> exact ⟨hp, rfl⟩

theorem decodeAt_crRead (hdist : c.crIndex.Distinct) (x : CrName) (hp : indexOk p = true) :
    decodeAt c (encodeAt c (crRead p x)) = .ok (crRead p x) := by
  obtain ⟨-, hwords⟩ := crRead_spelled (c := c) x hp
  rw [hwords, crRdWords, decodeAt_opWords rfl rfl hp rfl, decodeFormat_crRd, decodeCr_num hdist]
  simp [need_of]

theorem decodeAt_crWrite (hdist : c.crIndex.Distinct) (x : CrName) (hp : indexOk p = true) :
    decodeAt c (encodeAt c (crWrite p w x)) = .ok (crWrite p w x) := by
  obtain ⟨-, hwords⟩ := crWrite_spelled (c := c) (w := w) x hp
  rw [hwords, crWrWords, decodeAt_opWords rfl rfl hp rfl, decodeFormat_crWr, decodeCr_num hdist]
  simp [need_of]

end controlRegisters

/-! ### PSR bits (R185 to R187) -/

section psr
variable {c : Platform} {i : Instr} {k p : Nat}

theorem decodeAt_psrWords (hk : indexOk k = true) (hp : indexOk p = true) :
    decodeAt c (psrWords k p) = decodePsr k p := by
  rw [psrWords, decodeAt_opWords rfl rfl hp rfl, decodeFormat_psr, toNat_ofNat_of_indexOk hk]
  simp [need_of]

theorem decodePsr_spelled (h : decodePsr k p = .ok i) (hp : indexOk p = true) :
    i.SpelledAt c (psrWords k p) := by
  unfold decodePsr at h
  split at h <;> cases h <;> exact ⟨hp, rfl⟩

end psr

/-! ### Serialization and return (R184, R189) -/

section serialization
variable {c : Platform} {p : Nat}

theorem decodeAt_srlzD (hp : indexOk p = true) :
    decodeAt c (opWords fmtSer 0 0 0 p 0) = .ok (.srlzD p) := by
  rw [decodeAt_opWords rfl rfl hp rfl, decodeFormat_ser]
  simp [need_of]

theorem decodeAt_rfi (hp : indexOk p = true) :
    decodeAt c (opWords fmtRet 0 0 0 p 0) = .ok (.rfi p) := by
  rw [decodeAt_opWords rfl rfl hp rfl, decodeFormat_ret]
  simp [need_of]

end serialization

/-! ### The Processor Interrupt Block (R83, R260 to R266) -/

section pibWords
variable {c : Platform} {i : Instr} {a d : Word64} {n p : Nat}

theorem not_inDeliveryArea_of_inUpperPib (h : c.inUpperPib a = true) :
    ¬ c.inDeliveryArea a = true := by
  simp only [Platform.inUpperPib, Platform.inDeliveryArea, Bool.and_eq_true, decide_eq_true_eq] at *
  omega

theorem decodePibSt8_aligned (harea : c.inDeliveryArea a = true) (halign : aligned8 a = true) :
    decodePibSt8 c a d 8 p = .ok (.ipiSt8 p a d) := by
  rw [decodePibSt8, if_pos harea, if_pos (by simpa using halign)]

theorem decodePibSt8_bad (harea : c.inDeliveryArea a = true)
    (hform : (!(n == 8 && aligned8 a)) = true) : decodePibSt8 c a d n p = .ok (.ipiStBad p a n d) := by
  rw [Bool.not_eq_true', ← Bool.not_eq_true] at hform
  rw [decodePibSt8, if_pos harea, if_neg hform]

theorem decodePibSt8_undef (hupper : c.inUpperPib a = true)
    (hxtp : (!(n == 1 && a == c.xtpAddress)) = true) :
    decodePibSt8 c a d n p = .ok (.pibUndef p a n true d) := by
  rw [decodePibSt8, if_neg (not_inDeliveryArea_of_inUpperPib hupper), if_pos hupper, need_of hxtp]

theorem decodePibSt8_spelled (h : decodePibSt8 c a d n p = .ok i) (hn : widthOk n = true)
    (hp : indexOk p = true) : i.SpelledAt c (opWords fmtPibSt8 a d n p 0) := by
  unfold decodePibSt8 at h
  split_ifs at h with harea hform hupper
  · cases h
    obtain ⟨rfl, halign⟩ : n = 8 ∧ aligned8 a = true := by simpa using hform
    exact ⟨by simp [Instr.wellFormedAt, *], rfl⟩
  · cases h
    exact ⟨by simp [Instr.wellFormedAt, *], rfl⟩
  · obtain ⟨hxtp, h⟩ := need_eq_ok.1 h
    cases h
    exact ⟨by simp [Instr.wellFormedAt, *], rfl⟩

theorem decodePibLd_delivery (harea : c.inDeliveryArea a = true) :
    decodePibLd c a 0 n p = .ok (.ipiLd p a n) := by
  rw [decodePibLd, need_of BEq.rfl, if_pos harea]

theorem decodePibLd_undef (hupper : c.inUpperPib a = true)
    (hinta : (!(n == 1 && a == c.intaAddress)) = true) :
    decodePibLd c a 0 n p = .ok (.pibUndef p a n false 0) := by
  rw [decodePibLd, need_of BEq.rfl, if_neg (not_inDeliveryArea_of_inUpperPib hupper), if_pos hupper,
    need_of hinta]

theorem decodePibLd_spelled (h : decodePibLd c a d n p = .ok i) (hn : widthOk n = true)
    (hp : indexOk p = true) : i.SpelledAt c (opWords fmtPibLd a d n p 0) := by
  unfold decodePibLd at h
  obtain ⟨hd, hload⟩ := need_eq_ok.1 h
  obtain rfl := eq_of_beq hd
  split_ifs at hload with harea hupper
  · cases hload
    exact ⟨by simp [Instr.wellFormedAt, *], rfl⟩
  · obtain ⟨hinta, hload⟩ := need_eq_ok.1 hload
    cases hload
    exact ⟨by simp [Instr.wellFormedAt, *], rfl⟩

theorem decodeAt_pibSt8 (hn : widthOk n = true) (hp : indexOk p = true) :
    decodeAt c (opWords fmtPibSt8 a d n p 0) = decodePibSt8 c a d n p := by
  rw [decodeAt_opWords rfl hn hp rfl, decodeFormat_pibSt8, need_of BEq.rfl]

theorem decodeAt_pibLd (hn : widthOk n = true) (hp : indexOk p = true) :
    decodeAt c (opWords fmtPibLd a d n p 0) = decodePibLd c a d n p := by
  rw [decodeAt_opWords rfl hn hp rfl, decodeFormat_pibLd, need_of BEq.rfl]

theorem decodeAt_xtp {b : Byte} (hp : indexOk p = true) :
    decodeAt c (opWords fmtPibSt1 c.xtpAddress (b.setWidth 64) 1 p 0) =
      .ok (.xtpSt1 p c.xtpAddress b) := by
  rw [decodeAt_opWords rfl rfl hp rfl, decodeFormat_pibSt1]
  simp [need_of]

theorem decodeAt_inta (hp : indexOk p = true) :
    decodeAt c (opWords fmtPibLd1 c.intaAddress 0 1 p 0) = .ok (.intaLd1 p c.intaAddress) := by
  rw [decodeAt_opWords rfl rfl hp rfl, decodeFormat_pibLd1]
  simp [need_of]

end pibWords

/-! ### The I/O xAPIC (R87, R127) -/

section ioxWords
variable {c : Platform} {i : Instr} {x k p u n : Nat} {y : Byte} {w : Word32}

theorem decodeAt_ioxLdWords (hk : indexOk k = true) (hp : indexOk p = true) (hu : indexOk u = true) :
    decodeAt c (ioxLdWords k p u) = decodeIoxLd4 k p u := by
  rw [ioxLdWords, decodeAt_opWords rfl rfl hp hu, decodeFormat_ioxLd4, toNat_ofNat_of_indexOk hk]
  simp [need_of]

theorem decodeAt_ioxStWords (hk : indexOk k = true) (hp : indexOk p = true) (hu : indexOk u = true) :
    decodeAt c (ioxStWords k p u w) = decodeIoxSt4 k p u w := by
  rw [ioxStWords, decodeAt_opWords rfl rfl hp hu, decodeFormat_ioxSt4, toNat_ofNat_of_indexOk hk]
  simp [need_of]

theorem decodeIoxLd4_spelled (h : decodeIoxLd4 k p u = .ok i) (hp : indexOk p = true)
    (hu : indexOk u = true) : i.SpelledAt c (ioxLdWords k p u) := by
  unfold decodeIoxLd4 at h
  split at h
  · cases h
    exact ⟨by simp [Instr.wellFormedAt, *], rfl⟩
  · cases h

theorem decodeIoxSt4_spelled (h : decodeIoxSt4 k p u w = .ok i) (hp : indexOk p = true)
    (hu : indexOk u = true) : i.SpelledAt c (ioxStWords k p u w) := by
  unfold decodeIoxSt4 at h
  split at h <;> cases h <;> exact ⟨by simp [Instr.wellFormedAt, *], rfl⟩

theorem indexOk_of_lt (hx : x < 256) : indexOk x = true :=
  decide_eq_true (hx.trans (by decide))

theorem decodeAt_winLdWords (hx : x < 256) (hp : indexOk p = true) (hu : indexOk u = true) :
    decodeAt c (winLdWords x p u) = .ok (decodeIoxWinLd x p u) := by
  rw [winLdWords, decodeAt_opWords rfl rfl hp hu, decodeFormat_ioxWinLd,
    toNat_ofNat_of_indexOk (indexOk_of_lt hx)]
  simp [need_of, hx]

theorem decodeAt_winStWords (hx : x < 256) (hp : indexOk p = true) (hu : indexOk u = true) :
    decodeAt c (winStWords x p u w) = .ok (decodeIoxWinSt x p u w) := by
  rw [winStWords, decodeAt_opWords rfl rfl hp hu, decodeFormat_ioxWinSt,
    toNat_ofNat_of_indexOk (indexOk_of_lt hx)]
  simp [need_of, hx]

theorem undefIndex_iff : undefIndex y = true ↔ y.toNat < 16 ∧ y.toNat ≠ 1 := by
  simp [undefIndex, ← BitVec.toNat_inj]

theorem entryOk_iff : entryOk n = true ↔ n < 120 :=
  decide_eq_true_iff

theorem rteloIndex_lt (hn : entryOk n = true) : 16 + 2 * n < 256 := by
  have := entryOk_iff.1 hn
  omega

theorem rtehiIndex_lt (hn : entryOk n = true) : 17 + 2 * n < 256 := by
  have := entryOk_iff.1 hn
  omega

/-- What an internal index is the index of (R127): the version, no register, or half of an entry. -/
theorem internalIndex_cases (hx : x < 256) :
    x = 1 ∨ (∃ y : Byte, undefIndex y = true ∧ x = y.toNat) ∨
      (∃ n, entryOk n = true ∧ x = 16 + 2 * n) ∨ ∃ n, entryOk n = true ∧ x = 17 + 2 * n := by
  simp only [entryOk_iff, undefIndex_iff]
  by_cases hlow : x < 16
  · by_cases hver : x = 1
    · exact .inl hver
    · have hbyte : (BitVec.ofNat 8 x).toNat = x := Nat.mod_eq_of_lt hx
      exact .inr (.inl ⟨BitVec.ofNat 8 x, by rw [hbyte]; exact ⟨hlow, hver⟩, hbyte.symm⟩)
  · by_cases heven : x % 2 = 0
    · exact .inr (.inr (.inl ⟨(x - 16) / 2, by omega, by omega⟩))
    · exact .inr (.inr (.inr ⟨(x - 16) / 2, by omega, by omega⟩))

theorem decodeIoxWinLd_undef (hy : undefIndex y = true) :
    decodeIoxWinLd y.toNat p u = .ioxWinLd4Undef p u y := by
  obtain ⟨hlow, hver⟩ := undefIndex_iff.1 hy
  rw [decodeIoxWinLd, if_neg hver, if_pos hlow, BitVec.ofNat_toNat, BitVec.setWidth_eq]

theorem decodeIoxWinSt_undef (hy : undefIndex y = true) :
    decodeIoxWinSt y.toNat p u w = .ioxWinSt4Undef p u y w := by
  obtain ⟨hlow, hver⟩ := undefIndex_iff.1 hy
  rw [decodeIoxWinSt, if_neg hver, if_pos hlow, BitVec.ofNat_toNat, BitVec.setWidth_eq]

theorem decodeIoxWinLd_rtelo : decodeIoxWinLd (16 + 2 * n) p u = .ioxWinLd4Rtelo p u n := by
  rw [decodeIoxWinLd, if_neg (by omega), if_neg (by omega), if_pos (by omega),
    show (16 + 2 * n - 16) / 2 = n by omega]

theorem decodeIoxWinSt_rtelo : decodeIoxWinSt (16 + 2 * n) p u w = .ioxWinSt4Rtelo p u n w := by
  rw [decodeIoxWinSt, if_neg (by omega), if_neg (by omega), if_pos (by omega),
    show (16 + 2 * n - 16) / 2 = n by omega]

theorem decodeIoxWinLd_rtehi : decodeIoxWinLd (17 + 2 * n) p u = .ioxWinLd4Rtehi p u n := by
  rw [decodeIoxWinLd, if_neg (by omega), if_neg (by omega), if_neg (by omega),
    show (17 + 2 * n - 16) / 2 = n by omega]

theorem decodeIoxWinSt_rtehi : decodeIoxWinSt (17 + 2 * n) p u w = .ioxWinSt4Rtehi p u n w := by
  rw [decodeIoxWinSt, if_neg (by omega), if_neg (by omega), if_neg (by omega),
    show (17 + 2 * n - 16) / 2 = n by omega]

theorem decodeIoxWinLd_spelled (hx : x < 256) (hp : indexOk p = true) (hu : indexOk u = true) :
    (decodeIoxWinLd x p u).SpelledAt c (winLdWords x p u) := by
  obtain rfl | ⟨y, hy, rfl⟩ | ⟨n, hn, rfl⟩ | ⟨n, hn, rfl⟩ := internalIndex_cases hx
  · exact ⟨by simp [decodeIoxWinLd, Instr.wellFormedAt, *], rfl⟩
  · rw [decodeIoxWinLd_undef hy]
    exact ⟨by simp [Instr.wellFormedAt, *], rfl⟩
  · rw [decodeIoxWinLd_rtelo]
    exact ⟨by simp [Instr.wellFormedAt, *], rfl⟩
  · rw [decodeIoxWinLd_rtehi]
    exact ⟨by simp [Instr.wellFormedAt, *], rfl⟩

theorem decodeIoxWinSt_spelled (hx : x < 256) (hp : indexOk p = true) (hu : indexOk u = true) :
    (decodeIoxWinSt x p u w).SpelledAt c (winStWords x p u w) := by
  obtain rfl | ⟨y, hy, rfl⟩ | ⟨n, hn, rfl⟩ | ⟨n, hn, rfl⟩ := internalIndex_cases hx
  · exact ⟨by simp [decodeIoxWinSt, Instr.wellFormedAt, *], rfl⟩
  · rw [decodeIoxWinSt_undef hy]
    exact ⟨by simp [Instr.wellFormedAt, *], rfl⟩
  · rw [decodeIoxWinSt_rtelo]
    exact ⟨by simp [Instr.wellFormedAt, *], rfl⟩
  · rw [decodeIoxWinSt_rtehi]
    exact ⟨by simp [Instr.wellFormedAt, *], rfl⟩

end ioxWords

/-! ### Messages (R136, R145, R312) -/

section messages
variable {c : Platform} {i : Instr} {key datum : Word64} {q : Nat} {m : MsgBody}

/-- Every code is one of the list of R130 or of the two that no list holds. -/
theorem DMode.named : ∀ dm : DMode, dm = .int ∨ dm = .intHint ∨ dm = .pmi ∨ dm = .undef011 ∨
    dm = .nmi ∨ dm = .init ∨ dm = .undef110 ∨ dm = .extInt := by
  decide

theorem recvInstr_spelled (dm : DMode) (hq : indexOk q = true) :
    (recvInstr q (m.msg dm)).SpelledAt c (msgWords dm q m) := by
  obtain rfl | rfl | rfl | rfl | rfl | rfl | rfl | rfl := dm.named <;> exact ⟨hq, rfl⟩

theorem decodeMsg_msgKey (dm : DMode) :
    decodeMsg (msgKey dm m) (msgDatum m) q = .ok (recvInstr q (m.msg dm)) := by
  unfold decodeMsg
  simp only [decodeMsgBody_msgKey, msgKey_mode, BEq.rfl, Bool.and_self, need_of]
  obtain rfl | rfl | rfl | rfl | rfl | rfl | rfl | rfl := dm.named <;> rfl

/-- The two words must be those of the message they are read as. -/
theorem decodeMsg_spelled (h : decodeMsg key datum q = .ok i) (hq : indexOk q = true) :
    i.SpelledAt c (opWords fmtMsg key datum 0 q 0) := by
  obtain ⟨hwords, -⟩ := need_eq_ok.1 h
  obtain ⟨hkey, hdatum⟩ : key = _ ∧ datum = _ := by simpa using hwords
  generalize decodeMsgBody key datum = m at hkey hdatum
  generalize key.extractLsb' 8 3 = dm at hkey
  subst hkey hdatum
  rw [decodeMsg_msgKey] at h
  cases h
  exact recvInstr_spelled dm hq

theorem decodeAt_recvInstr (dm : DMode) (m : MsgBody) (hq : indexOk q = true) :
    decodeAt c (encodeAt c (recvInstr q (m.msg dm))) = .ok (recvInstr q (m.msg dm)) := by
  obtain ⟨-, hwords⟩ := recvInstr_spelled (c := c) (m := m) dm hq
  rw [hwords, msgWords, decodeAt_opWords rfl rfl hq rfl]
  exact decodeMsg_msgKey dm

end messages

/-! ### The obligations (R120, R145) -/

/-- Whatever a format reads is well-formed, and is spelled by the words it was read from. -/
theorem decodeFormat_spelled {c : Platform} {i : Instr} {fmt n p u : Nat} {key datum : Word64}
    (h : decodeFormat c fmt key datum n p u = .ok i) (hn : widthOk n = true) (hp : indexOk p = true)
    (hu : indexOk u = true) : i.SpelledAt c (opWords fmt key datum n p u) := by
  have hkey : BitVec.ofNat 64 key.toNat = key := by simp
  obtain rfl | rfl | rfl | rfl | rfl | rfl | rfl | rfl | rfl | rfl | rfl | rfl | rfl | rfl :=
    format_of_decodeFormat h
  · simp only [decodeFormat_crRd, need_eq_ok, Bool.and_eq_true, beq_iff_eq] at h
    obtain ⟨⟨rfl, rfl⟩, rfl, h⟩ := h
    obtain ⟨x, rfl, rfl⟩ := decodeCr_eq_ok h
    exact crRead_spelled x hp
  · simp only [decodeFormat_crWr, need_eq_ok, beq_iff_eq] at h
    obtain ⟨rfl, rfl, h⟩ := h
    obtain ⟨x, rfl, rfl⟩ := decodeCr_eq_ok h
    exact crWrite_spelled x hp
  · simp only [decodeFormat_psr, need_eq_ok, Bool.and_eq_true, beq_iff_eq] at h
    obtain ⟨⟨rfl, rfl⟩, rfl, h⟩ := h
    exact hkey ▸ decodePsr_spelled h hp
  · simp only [decodeFormat_ser, need_eq_ok, Bool.and_eq_true, beq_iff_eq] at h
    obtain ⟨⟨⟨rfl, rfl⟩, rfl⟩, rfl, h⟩ := h
    cases h
    exact ⟨hp, rfl⟩
  · simp only [decodeFormat_ret, need_eq_ok, Bool.and_eq_true, beq_iff_eq] at h
    obtain ⟨⟨⟨rfl, rfl⟩, rfl⟩, rfl, h⟩ := h
    cases h
    exact ⟨hp, rfl⟩
  · simp only [decodeFormat_pibSt8, need_eq_ok, beq_iff_eq] at h
    obtain ⟨rfl, h⟩ := h
    exact decodePibSt8_spelled h hn hp
  · simp only [decodeFormat_pibLd, need_eq_ok, beq_iff_eq] at h
    obtain ⟨rfl, h⟩ := h
    exact decodePibLd_spelled h hn hp
  · simp only [decodeFormat_pibSt1, need_eq_ok, Bool.and_eq_true, beq_iff_eq] at h
    obtain ⟨⟨rfl, hdatum⟩, rfl, rfl, h⟩ := h
    cases h
    exact ⟨by simp [Instr.wellFormedAt, hp], by rw [encodeAt, ← hdatum]⟩
  · simp only [decodeFormat_pibLd1, need_eq_ok, Bool.and_eq_true, beq_iff_eq] at h
    obtain ⟨⟨rfl, rfl⟩, rfl, rfl, h⟩ := h
    cases h
    exact ⟨by simp [Instr.wellFormedAt, hp], rfl⟩
  · simp only [decodeFormat_ioxLd4, need_eq_ok, beq_iff_eq] at h
    obtain ⟨rfl, rfl, h⟩ := h
    exact hkey ▸ decodeIoxLd4_spelled h hp hu
  · simp only [decodeFormat_ioxSt4, need_eq_ok, beq_iff_eq] at h
    obtain ⟨hdatum, rfl, h⟩ := h
    rw [hdatum]
    exact hkey ▸ decodeIoxSt4_spelled h hp hu
  · simp only [decodeFormat_ioxWinLd, need_eq_ok, beq_iff_eq, decide_eq_true_eq] at h
    obtain ⟨rfl, rfl, hx, h⟩ := h
    cases h
    have hspelled := decodeIoxWinLd_spelled (c := c) hx hp hu
    rwa [winLdWords, hkey] at hspelled
  · simp only [decodeFormat_ioxWinSt, need_eq_ok, beq_iff_eq, decide_eq_true_eq] at h
    obtain ⟨hdatum, rfl, hx, h⟩ := h
    cases h
    have hspelled := decodeIoxWinSt_spelled (c := c) (w := datum.setWidth 32) hx hp hu
    rwa [winStWords, hkey, ← hdatum] at hspelled
  · simp only [decodeFormat_msg, need_eq_ok, beq_iff_eq] at h
    obtain ⟨rfl, rfl, h⟩ := h
    exact decodeMsg_spelled h hp

/-- Settles O2: what a format reads is spelled by the words it was read from. -/
theorem encodeOfDecode : Obligations.EncodeOfDecode := by
  intro c ws i h
  obtain ⟨fmt, key, datum, n, p, u, rfl, hformat, hn, hp, hu⟩ := decodeAt_eq_ok h
  exact decodeFormat_spelled hformat hn hp hu

/-- Settles O1: operation by operation, the words of each are those of its format. -/
theorem decodeOfEncode : Obligations.DecodeOfEncode := by
  intro c i hdist hwf
  cases i with simp only [Instr.wellFormedAt, Bool.and_eq_true, beq_iff_eq] at hwf
  | movFromLid p => exact decodeAt_crRead hdist .lid hwf
  | movToLid p w => exact decodeAt_crWrite hdist .lid hwf
  | movFromIrr0 p => exact decodeAt_crRead hdist .irr0 hwf
  | movToIrr0 p w => exact decodeAt_crWrite hdist .irr0 hwf
  | movFromIrr1 p => exact decodeAt_crRead hdist .irr1 hwf
  | movToIrr1 p w => exact decodeAt_crWrite hdist .irr1 hwf
  | movFromIrr2 p => exact decodeAt_crRead hdist .irr2 hwf
  | movToIrr2 p w => exact decodeAt_crWrite hdist .irr2 hwf
  | movFromIrr3 p => exact decodeAt_crRead hdist .irr3 hwf
  | movToIrr3 p w => exact decodeAt_crWrite hdist .irr3 hwf
  | movFromIvr p => exact decodeAt_crRead hdist .ivr hwf
  | movToIvr p w => exact decodeAt_crWrite hdist .ivr hwf
  | movFromEoi p => exact decodeAt_crRead hdist .eoi hwf
  | movToEoi p w => exact decodeAt_crWrite hdist .eoi hwf
  | movFromTpr p => exact decodeAt_crRead hdist .tpr hwf
  | movToTpr p w => exact decodeAt_crWrite hdist .tpr hwf
  | movFromItv p => exact decodeAt_crRead hdist .itv hwf
  | movToItv p w => exact decodeAt_crWrite hdist .itv hwf
  | movFromPmv p => exact decodeAt_crRead hdist .pmv hwf
  | movToPmv p w => exact decodeAt_crWrite hdist .pmv hwf
  | movFromCmcv p => exact decodeAt_crRead hdist .cmcv hwf
  | movToCmcv p w => exact decodeAt_crWrite hdist .cmcv hwf
  | movFromLrr0 p => exact decodeAt_crRead hdist .lrr0 hwf
  | movToLrr0 p w => exact decodeAt_crWrite hdist .lrr0 hwf
  | movFromLrr1 p => exact decodeAt_crRead hdist .lrr1 hwf
  | movToLrr1 p w => exact decodeAt_crWrite hdist .lrr1 hwf
  | srlzD p => exact decodeAt_srlzD hwf
  | ssmI p => exact decodeAt_psrWords rfl hwf
  | rsmI p => exact decodeAt_psrWords rfl hwf
  | ssmIc p => exact decodeAt_psrWords rfl hwf
  | rfi p => exact decodeAt_rfi hwf
  | ipiSt8 p a d =>
    obtain ⟨⟨hp, harea⟩, halign⟩ := hwf
    exact (decodeAt_pibSt8 rfl hp).trans (decodePibSt8_aligned harea halign)
  | ipiStBad p a n d =>
    obtain ⟨⟨⟨hp, hn⟩, harea⟩, hform⟩ := hwf
    exact (decodeAt_pibSt8 hn hp).trans (decodePibSt8_bad harea hform)
  | ipiLd p a n =>
    obtain ⟨⟨hp, hn⟩, harea⟩ := hwf
    exact (decodeAt_pibLd hn hp).trans (decodePibLd_delivery harea)
  | xtpSt1 p a b =>
    obtain ⟨hp, rfl⟩ := hwf
    exact decodeAt_xtp hp
  | intaLd1 p a =>
    obtain ⟨hp, rfl⟩ := hwf
    exact decodeAt_inta hp
  | pibUndef p a n store d =>
    obtain ⟨⟨⟨hp, hn⟩, harea⟩, hform⟩ := hwf
    cases store with
    | true => exact (decodeAt_pibSt8 hn hp).trans (decodePibSt8_undef harea hform)
    | false =>
      obtain ⟨hinta, hd⟩ := Bool.and_eq_true_iff.1 hform
      obtain rfl := eq_of_beq hd
      exact (decodeAt_pibLd hn hp).trans (decodePibLd_undef harea hinta)
  | ioxSelSt4 p u w => exact decodeAt_ioxStWords rfl hwf.1 hwf.2
  | ioxSelLd4 p u => exact decodeAt_ioxLdWords rfl hwf.1 hwf.2
  | ioxIrqaSt4 p u w => exact decodeAt_ioxStWords rfl hwf.1 hwf.2
  | ioxEoiSt4 p u w => exact decodeAt_ioxStWords rfl hwf.1 hwf.2
  | ioxWinLd4Ver p u => exact decodeAt_winLdWords (by decide) hwf.1 hwf.2
  | ioxWinSt4Ver p u w => exact decodeAt_winStWords (by decide) hwf.1 hwf.2
  | ioxWinLd4Rtelo p u n =>
    obtain ⟨⟨hp, hu⟩, hn⟩ := hwf
    exact (decodeAt_winLdWords (rteloIndex_lt hn) hp hu).trans (congrArg _ decodeIoxWinLd_rtelo)
  | ioxWinSt4Rtelo p u n w =>
    obtain ⟨⟨hp, hu⟩, hn⟩ := hwf
    exact (decodeAt_winStWords (rteloIndex_lt hn) hp hu).trans (congrArg _ decodeIoxWinSt_rtelo)
  | ioxWinLd4Rtehi p u n =>
    obtain ⟨⟨hp, hu⟩, hn⟩ := hwf
    exact (decodeAt_winLdWords (rtehiIndex_lt hn) hp hu).trans (congrArg _ decodeIoxWinLd_rtehi)
  | ioxWinSt4Rtehi p u n w =>
    obtain ⟨⟨hp, hu⟩, hn⟩ := hwf
    exact (decodeAt_winStWords (rtehiIndex_lt hn) hp hu).trans (congrArg _ decodeIoxWinSt_rtehi)
  | ioxWinLd4Undef p u y =>
    obtain ⟨⟨hp, hu⟩, hy⟩ := hwf
    exact (decodeAt_winLdWords y.isLt hp hu).trans (congrArg _ (decodeIoxWinLd_undef hy))
  | ioxWinSt4Undef p u y w =>
    obtain ⟨⟨hp, hu⟩, hy⟩ := hwf
    exact (decodeAt_winStWords y.isLt hp hu).trans (congrArg _ (decodeIoxWinSt_undef hy))
  | msgInt q m => exact decodeAt_recvInstr .int m hwf
  | msgPmi q m => exact decodeAt_recvInstr .pmi m hwf
  | msgNmi q m => exact decodeAt_recvInstr .nmi m hwf
  | msgInit q m => exact decodeAt_recvInstr .init m hwf
  | msgExtint q m => exact decodeAt_recvInstr .extInt m hwf
  | msgUndef001 q m => exact decodeAt_recvInstr .intHint m hwf
  | msgUndef011 q m => exact decodeAt_recvInstr .undef011 m hwf
  | msgUndef110 q m => exact decodeAt_recvInstr .undef110 m hwf

/-- Settles O3: the decoder runs on ten lists of words. -/
theorem sampleWordsDecode : Obligations.SampleWordsDecode := by
  unfold Obligations.SampleWordsDecode
  decide

end Sys2Proof
end

section
/-! SUPPORT. The operations of `40_local_sapic_ops.md` (R160 to R189), each as what it does when its
processor runs; the EOIs that `srlz.d` applies (R170, R184); and that an operation changes no processor but
the one that issues it. -/

namespace Sys2Proof.Machine

theorem software_running {s : State} {p : Nat} {P : Proc} (k : Proc → Res) (hrun : Running s p P) :
    software p s k = k P :=
  software_some k hrun.1 hrun.2

/-! ### The vectors in service (R24, R353) -/

/-- No two vectors that an IVR read can report have the same priority (R349). -/
theorem prio_injective {v w : Nat} (hv : reportable v) (hw : reportable w) (h : prio v = prio w) :
    v = w := by
  unfold reportable at hv hw
  unfold prio at h
  split_ifs at h <;> omega

theorem Proc.mem_inService {P : Proc} {v : Nat} :
    v ∈ P.inService ↔ reportable v ∧ P.insvc.getLsbD v = true := by
  have hlt : P.insvc.getLsbD v = true → v < 256 := BitVec.lt_of_getLsbD
  simp only [Proc.inService, List.mem_filter, List.mem_range, Bool.and_eq_true, decide_eq_true_eq]
  exact ⟨And.right, fun h => ⟨hlt h.2, h⟩⟩

theorem Proc.topInsvc_eq_none_iff {P : Proc} : P.topInsvc = none ↔ P.inService = [] := by
  simp [Proc.topInsvc, topVector_eq_none, List.eq_nil_iff_forall_not_mem, Proc.mem_inService]

/-- What is first to leave service: a vector in service, of greater priority than every other (R353). -/
theorem Proc.topInsvc_some {P : Proc} {v : Nat} (h : P.topInsvc = some v) :
    v ∈ P.inService ∧ ∀ w ∈ P.inService, w ≠ v → prio w < prio v := by
  obtain ⟨hreport, hin, hmax⟩ := topVector_eq_some h
  refine ⟨Proc.mem_inService.2 ⟨hreport, hin⟩, fun w hw hne => ?_⟩
  obtain ⟨hwreport, hwin⟩ := Proc.mem_inService.1 hw
  exact lt_of_le_of_ne (hmax w hwreport hwin) (hne ∘ prio_injective hwreport hreport)

/-- `P` with vector `v` out of service (R170). -/
def Proc.withoutService (P : Proc) (v : Nat) : Proc := { P with insvc := writeBit P.insvc v false }

theorem Proc.withoutService_insvc (P : Proc) (v w : Nat) :
    (P.withoutService v).insvc.getLsbD w = (!decide (w = v) && P.insvc.getLsbD w) := by
  unfold Proc.withoutService
  rw [getLsbD_writeBit]
  by_cases h : w = v <;> simp [h]

theorem Proc.withoutService_inService (P : Proc) (v : Nat) :
    (P.withoutService v).inService = P.inService.erase v := by
  have hnodup : P.inService.Nodup := List.nodup_range.filter _
  rw [hnodup.erase_eq_filter]
  simp only [Proc.inService, List.filter_filter, Proc.withoutService_insvc]
  refine List.filter_congr fun w _ => ?_
  by_cases h : w = v <;> simp [h]

/-- One vector fewer is in service when one of them leaves. -/
theorem Proc.withoutService_length {P : Proc} {v : Nat} (h : v ∈ P.inService) :
    (P.withoutService v).inService.length + 1 = P.inService.length := by
  rw [Proc.withoutService_inService, List.length_erase_add_one h]

/-! ### End of interrupt (R170) -/

theorem Proc.eoiEffect_of_none {P : Proc} (h : P.topInsvc = none) : P.eoiEffect = none := by
  simp [Proc.eoiEffect, h]

theorem Proc.eoiEffect_of_some {P : Proc} {v : Nat} (h : P.topInsvc = some v) :
    P.eoiEffect = some (P.withoutService v) := by
  simp [Proc.eoiEffect, h, Proc.withoutService]

theorem Proc.eoiEffects_succ_of_none {P : Proc} (k : Nat) (h : P.topInsvc = none) :
    Proc.eoiEffects (k + 1) P = none := by
  simp [Proc.eoiEffects, Proc.eoiEffect_of_none h]

theorem Proc.eoiEffects_succ_of_some {P : Proc} {v : Nat} (k : Nat) (h : P.topInsvc = some v) :
    Proc.eoiEffects (k + 1) P = Proc.eoiEffects k (P.withoutService v) := by
  simp [Proc.eoiEffects, Proc.eoiEffect_of_some h]

/-- More EOIs than vectors in service: one of them finds none. -/
theorem Proc.eoiEffects_eq_none {k : Nat} {P : Proc} (h : P.inService.length < k) :
    Proc.eoiEffects k P = none := by
  induction k generalizing P with
  | zero => omega
  | succ k ih =>
    cases htop : P.topInsvc with
    | none => exact Proc.eoiEffects_succ_of_none k htop
    | some v =>
      have hlen := Proc.withoutService_length (Proc.topInsvc_some htop).1
      rw [Proc.eoiEffects_succ_of_some k htop]
      exact ih (by omega)

/-- `x` is what `P` has in service after `k` ends of interrupt: of the reportable vectors the `k` of greatest
priority have left, and nothing else has changed (R170). -/
structure Proc.Retires (P : Proc) (k : Nat) (x : BitVec 256) : Prop where
  subset : ∀ v, x.getLsbD v = true → P.insvc.getLsbD v = true
  unreported : ∀ v, ¬ reportable v → x.getLsbD v = P.insvc.getLsbD v
  highest : ∀ v w, P.insvc.getLsbD v = true → x.getLsbD v = false → reportable w →
    x.getLsbD w = true → prio w < prio v
  count : ({ P with insvc := x } : Proc).inService.length + k = P.inService.length

theorem Proc.Retires.none_ended (P : Proc) : P.Retires 0 P.insvc where
  subset := fun _ h => h
  unreported := fun _ _ => rfl
  highest := fun v _ hin hout => by simp [hin] at hout
  count := rfl

/-- The first end of interrupt takes the vector of greatest priority, the others go on from there. -/
theorem Proc.Retires.succ {P : Proc} {v k : Nat} {x : BitVec 256} (htop : P.topInsvc = some v)
    (h : (P.withoutService v).Retires k x) : P.Retires (k + 1) x := by
  obtain ⟨hv, hmax⟩ := Proc.topInsvc_some htop
  have hstays {w : Nat} (hw : x.getLsbD w = true) : w ≠ v ∧ P.insvc.getLsbD w = true := by
    simpa [Proc.withoutService_insvc] using h.subset w hw
  refine ⟨fun w hw => (hstays hw).2, fun w hw => ?_, fun u w hin hout hreport hw => ?_, ?_⟩
  · have hne : w ≠ v := fun hwv => hw (hwv ▸ (Proc.mem_inService.1 hv).1)
    simp [h.unreported w hw, Proc.withoutService_insvc, hne]
  · obtain ⟨hne, hwin⟩ := hstays hw
    by_cases huv : u = v
    · exact huv ▸ hmax w (Proc.mem_inService.2 ⟨hreport, hwin⟩) hne
    · exact h.highest u w (by simp [Proc.withoutService_insvc, huv, hin]) hout hreport hw
  · have hcount : ({ P with insvc := x } : Proc).inService.length + k =
        (P.withoutService v).inService.length := h.count
    have hlen := Proc.withoutService_length hv
    omega

/-- With as many vectors in service, every EOI finds one. -/
theorem Proc.eoiEffects_retires {k : Nat} {P : Proc} (h : k ≤ P.inService.length) :
    ∃ x, Proc.eoiEffects k P = some { P with insvc := x } ∧ P.Retires k x := by
  induction k generalizing P with
  | zero => exact ⟨P.insvc, rfl, .none_ended P⟩
  | succ k ih =>
    cases htop : P.topInsvc with
    | none => simp [Proc.topInsvc_eq_none_iff.1 htop] at h
    | some v =>
      have hlen := Proc.withoutService_length (Proc.topInsvc_some htop).1
      obtain ⟨x, hx, hretires⟩ := ih (P := P.withoutService v) (by omega)
      exact ⟨x, (Proc.eoiEffects_succ_of_some k htop).trans hx, hretires.succ htop⟩

/-! ### Serialization (R184) -/

theorem Proc.serialize_eq_none {P : Proc} (h : P.inService.length < P.eoiq) : P.serialize = none := by
  have hnone : Proc.eoiEffects P.eoiq P.settleAll = none := Proc.eoiEffects_eq_none h
  simp [Proc.serialize, hnone]

theorem Proc.serialize_retires {P : Proc} (h : P.eoiq ≤ P.inService.length) :
    ∃ x, P.serialize = some { P.settleAll with insvc := x, eoiq := 0 } ∧ P.Retires P.eoiq x := by
  obtain ⟨x, hx, hsubset, hunreported, hhighest, hcount⟩ :=
    Proc.eoiEffects_retires (P := P.settleAll) h
  exact ⟨x, by simp [Proc.serialize, hx], hsubset, hunreported, hhighest, hcount⟩

theorem execSrlzD_refused {s : State} {p : Nat} {P : Proc} (hrun : Running s p P)
    (h : P.serialize = none) : exec (.srlzD p) s = .refused .eoiNothingInService := by
  refine (software_running _ hrun).trans ?_
  simp [h]

theorem execSrlzD_next {s : State} {p : Nat} {P P' : Proc} (hrun : Running s p P)
    (h : P.serialize = some P') : exec (.srlzD p) s = .next (s.setProc p P') := by
  refine (software_running _ hrun).trans ?_
  simp [h]

/-- Settles O17: by whether every queued EOI finds a vector in service, by induction on how many there are. -/
theorem serializeSettlesAll : Obligations.SerializeSettlesAll := by
  intro s p P hrun
  refine ⟨fun hmore => execSrlzD_refused hrun (Proc.serialize_eq_none hmore), fun hle => ?_⟩
  obtain ⟨x, hser, hretires⟩ := Proc.serialize_retires hle
  exact ⟨x, execSrlzD_next hrun hser, hretires.subset, hretires.unreported, hretires.highest,
    hretires.count⟩

/-! ### The other processors (R160) -/

/-- Every processor but `p` is in `s'` what it is in `s`. -/
def State.OthersKept (s : State) (p : Nat) (s' : State) : Prop :=
  ∀ q, q ≠ p → s'.procs[q]? = s.procs[q]?

section others
variable {s s' : State} {p u n : Nat}

theorem State.OthersKept.of_procs (h : s'.procs = s.procs) : s.OthersKept p s' :=
  fun _ _ => congrArg (·[_]?) h

theorem State.OthersKept.setProc (s : State) (p : Nat) (P : Proc) : s.OthersKept p (s.setProc p P) :=
  fun _ hq => List.getElem?_set_ne hq.symm

theorem software_setProc_others {f : Proc → Proc}
    (h : software p s (fun P => .next (s.setProc p (f P))) = .next s') : s.OthersKept p s' := by
  obtain ⟨P, -, -, h⟩ := software_next h
  cases h
  exact .setProc s p _

theorem readRegDraw_others {f : Proc → Word64 → Word64} (h : readRegDraw p s f = .next s') :
    s.OthersKept p s' := by
  obtain ⟨P, -, -, rfl⟩ := readRegDraw_next h
  exact .setProc s p _

theorem writeReg_others {w r : Word64} {f : Proc → Proc} (h : writeReg p s w r f = .next s') :
    s.OthersKept p s' := by
  obtain ⟨P, -, -, ⟨-, rfl⟩ | ⟨-, rfl⟩⟩ := writeReg_next h <;> exact .setProc s p _

theorem writeLrr_others {w : Word64} {f : Proc → Lrr → Proc} (h : writeLrr p s w f = .next s') :
    s.OthersKept p s' := by
  obtain ⟨P, -, -, -, -, rfl⟩ := writeLrr_next h
  exact .setProc s p _

theorem execSrlzD_others (h : execSrlzD p s = .next s') : s.OthersKept p s' := by
  obtain ⟨P, -, -, h⟩ := software_next h
  split at h
  · cases h
  · cases h; exact .setProc s p _

theorem execIpiSt8_others {a d : Word64} (h : execIpiSt8 p a d s = .next s') : s.OthersKept p s' := by
  obtain ⟨P, -, -, h⟩ := software_next h
  split at h
  · cases h
  split at h
  · cases h
  split at h
  · cases h
  split at h
  · cases h
  split at h
  · cases h
  · cases h; exact .of_procs rfl

theorem execXtpSt1_others {a : Word64} {b : Byte} (h : execXtpSt1 p a b s = .next s') :
    s.OthersKept p s' := by
  obtain ⟨P, -, -, h⟩ := software_next h
  split at h
  · split at h
    · cases h; exact .setProc s p _
    · cases h; exact .of_procs rfl
  · cases h

theorem execIntaLd1_others {a : Word64} (h : execIntaLd1 p a s = .next s') : s.OthersKept p s' := by
  obtain ⟨P, -, -, h⟩ := software_next h
  split at h
  · split at h
    · cases h; exact .setProc s p _
    · cases h
  · cases h

theorem execIoxSelSt4_others {w : Word32} (h : execIoxSelSt4 p u w s = .next s') : s.OthersKept p s' := by
  obtain ⟨P, U, -, -, -, h⟩ := onUnit_next h
  split at h
  · cases h
  · cases h; exact .of_procs rfl

theorem execIoxSelLd4_others (h : execIoxSelLd4 p u s = .next s') : s.OthersKept p s' := by
  obtain ⟨P, U, -, -, -, h⟩ := onUnit_next h
  cases h
  exact .setProc s p _

theorem execIoxEoiSt4_others {w : Word32} (h : execIoxEoiSt4 p u w s = .next s') : s.OthersKept p s' := by
  obtain ⟨P, U, -, -, -, h⟩ := onUnit_next h
  split at h
  · cases h
  split at h
  · cases h
  · cases h; exact .of_procs rfl

theorem execIoxWinLd4Ver_others (h : execIoxWinLd4Ver p u s = .next s') : s.OthersKept p s' := by
  obtain ⟨P, U, -, -, -, -, h⟩ := onWindow_next h
  cases h
  exact .setProc s p _

theorem execIoxWinLd4Rtelo_others (h : execIoxWinLd4Rtelo p u n s = .next s') : s.OthersKept p s' := by
  obtain ⟨P, U, E, -, -, -, -, -, h⟩ := onWindowEntry_next h
  cases h
  exact .setProc s p _

theorem execIoxWinSt4Rtelo_others {w : Word32} (h : execIoxWinSt4Rtelo p u n w s = .next s') :
    s.OthersKept p s' := by
  obtain ⟨P, U, E, -, -, -, -, -, h⟩ := onWindowEntry_next h
  split at h
  · cases h
  split at h
  · cases h
  · cases h; exact .of_procs rfl

theorem execIoxWinLd4Rtehi_others (h : execIoxWinLd4Rtehi p u n s = .next s') : s.OthersKept p s' := by
  obtain ⟨P, U, E, -, -, -, -, -, h⟩ := onWindowEntry_next h
  cases h
  exact .setProc s p _

theorem execIoxWinSt4Rtehi_others {w : Word32} (h : execIoxWinSt4Rtehi p u n w s = .next s') :
    s.OthersKept p s' := by
  obtain ⟨P, U, E, -, -, -, -, -, h⟩ := onWindowEntry_next h
  split at h
  · cases h
  · cases h; exact .of_procs rfl

/-- An operation updates its issuer, a unit, the buses or the count of draws; a receipt has no issuer. -/
theorem exec_others {i : Instr} (hi : i.issuer = some p) (h : exec i s = .next s') :
    s.OthersKept p s' := by
  cases i with
  | movFromLid | movFromIrr0 | movFromTpr | movFromLrr0 | movFromLrr1 =>
    cases hi; exact readRegDraw_others h
  | movFromEoi => cases hi; exact readRegDraw_others (f := fun _ r => r) h
  | movToLid | movToTpr | movToItv | movToPmv | movToCmcv => cases hi; exact writeReg_others h
  | movToLrr0 =>
    cases hi; exact writeLrr_others (f := fun P l => { P with lrr0 := P.lrr0.write l }) h
  | movToLrr1 =>
    cases hi; exact writeLrr_others (f := fun P l => { P with lrr1 := P.lrr1.write l }) h
  | movFromIrr1 | movFromIrr2 | movFromIrr3 | movFromItv | movFromPmv | movFromCmcv | movToIrr0
  | movToIrr1 | movToIrr2 | movToIrr3 | movToIvr | movFromIvr | movToEoi | ssmI | rsmI | ssmIc | rfi =>
    cases hi; exact software_setProc_others h
  | srlzD => cases hi; exact execSrlzD_others h
  | ipiSt8 => cases hi; exact execIpiSt8_others h
  | ipiStBad | ipiLd | pibUndef => exact absurd h software_refused_ne_next
  | xtpSt1 => cases hi; exact execXtpSt1_others h
  | intaLd1 => cases hi; exact execIntaLd1_others h
  | ioxSelSt4 => cases hi; exact execIoxSelSt4_others h
  | ioxSelLd4 => cases hi; exact execIoxSelLd4_others h
  | ioxIrqaSt4 p u w => exact absurd h (execIoxIrqaSt4_ne_next w)
  | ioxEoiSt4 => cases hi; exact execIoxEoiSt4_others h
  | ioxWinLd4Ver => cases hi; exact execIoxWinLd4Ver_others h
  | ioxWinSt4Ver | ioxWinLd4Undef | ioxWinSt4Undef => exact absurd h onWindow_refused_ne_next
  | ioxWinLd4Rtelo => cases hi; exact execIoxWinLd4Rtelo_others h
  | ioxWinSt4Rtelo => cases hi; exact execIoxWinSt4Rtelo_others h
  | ioxWinLd4Rtehi => cases hi; exact execIoxWinLd4Rtehi_others h
  | ioxWinSt4Rtehi => cases hi; exact execIoxWinSt4Rtehi_others h
  | msgInt | msgPmi | msgNmi | msgInit | msgExtint | msgUndef001 | msgUndef011 | msgUndef110 => cases hi

end others

/-- Settles O58: operation by operation, each by the one update it makes. -/
theorem operationsAreLocal : Obligations.OperationsAreLocal :=
  fun _ _ _ _ q hi hq h => exec_others hi h q hq

/-! ### Reserved bits (R121 to R123, R160, R181) -/

section reservedBits
variable {w : Word64}

/-- A word shares no bit with a mask if it has 0 wherever the mask has 1. -/
theorem and_mask_eq_zero {n : Nat} {x mask : BitVec n}
    (h : ∀ j, mask.getLsbD j = true → x.getLsbD j = false) : x &&& mask = 0 :=
  BitVec.eq_of_getLsbD_eq fun j _ => by
    cases hj : mask.getLsbD j <;> simp [hj, h]

theorem getLsbD_of_field_zero {n start len j : Nat} {x : BitVec n} (h : x.extractLsb' start len = 0)
    (hlow : start ≤ j) (hhigh : j < start + len) : x.getLsbD j = false := by
  have hbit : (x.extractLsb' start len).getLsbD (j - start) = false := by simp [h]
  simpa [BitVec.getLsbD_extractLsb', Nat.add_sub_cancel' hlow, show j - start < len by omega] using hbit

theorem lidReserved_bits : ∀ j < 64, lidReserved.getLsbD j = true → j < 16 := by decide

theorem tprReserved_bits : ∀ j < 64, tprReserved.getLsbD j = true → (8 ≤ j ∧ j < 16) ∨ 17 ≤ j := by
  decide

theorem lrrUnlabelled_bits : ∀ j < 64, lrrUnlabelled.getLsbD j = true → j = 14 ∨ (11 ≤ j ∧ j < 13) := by
  decide

theorem and_lidReserved_eq_zero (h : w.extractLsb' 0 16 = 0) : w &&& lidReserved = 0 :=
  and_mask_eq_zero fun j hj =>
    getLsbD_of_field_zero h (Nat.zero_le j)
      (by have := lidReserved_bits j (BitVec.lt_of_getLsbD hj) hj; omega)

theorem and_tprReserved_eq_zero (hmid : w.extractLsb' 8 8 = 0) (hhigh : w.extractLsb' 17 47 = 0) :
    w &&& tprReserved = 0 :=
  and_mask_eq_zero fun j hj => by
    have hlt := BitVec.lt_of_getLsbD hj
    rcases tprReserved_bits j hlt hj with ⟨hlow, hup⟩ | hlow
    · exact getLsbD_of_field_zero hmid hlow hup
    · exact getLsbD_of_field_zero hhigh hlow hlt

/-- The three vector registers have the reserved bits of TPR (R122, R123). -/
theorem lvrReserved_eq : lvrReserved = tprReserved := rfl

theorem and_lrrUnlabelled_eq_zero (hbit : w.getLsbD 14 = false) (hfield : w.extractLsb' 11 2 = 0) :
    w &&& lrrUnlabelled = 0 :=
  and_mask_eq_zero fun j hj => by
    rcases lrrUnlabelled_bits j (BitVec.lt_of_getLsbD hj) hj with rfl | ⟨hlow, hup⟩
    · exact hbit
    · exact getLsbD_of_field_zero hfield hlow hup

theorem and_lrrUnlabelled_ne_zero (h : w.getLsbD 14 = true ∨ w.extractLsb' 11 2 ≠ 0) :
    w &&& lrrUnlabelled ≠ 0 := by
  intro hzero
  have hbit : (w &&& lrrUnlabelled).getLsbD 14 = w.getLsbD 14 := by
    rw [BitVec.getLsbD_and, show lrrUnlabelled.getLsbD 14 = true by decide, Bool.and_true]
  have hfield : (w &&& lrrUnlabelled).extractLsb' 11 2 = w.extractLsb' 11 2 := by
    rw [BitVec.extractLsb'_and, show lrrUnlabelled.extractLsb' 11 2 = BitVec.allOnes 2 by decide,
      BitVec.and_allOnes]
  rw [hzero] at hbit hfield
  exact h.elim (fun h => by rw [h] at hbit; simp at hbit) fun h => h (by simpa using hfield.symm)

theorem dmUndefined_iff {dm : DMode} : dmUndefined dm = true ↔ dm ∈ [0b001#3, 0b011#3, 0b110#3] := by
  simp [dmUndefined, or_assoc]

end reservedBits

/-! ### What a read delivers (R121 to R123) -/

section layout
variable {k : Nat} (x : BitVec k)

theorem lid_id (id eid : Byte) : (x ++ id ++ eid ++ 0#16).extractLsb' 24 8 = id := by
  simp [BitVec.extractLsb'_append_eq_of_le, BitVec.extractLsb'_append_eq_of_add_le]

theorem lid_eid (eid : Byte) : (x ++ eid ++ 0#16).extractLsb' 16 8 = eid := by
  simp [BitVec.extractLsb'_append_eq_of_le, BitVec.extractLsb'_append_eq_of_add_le]

theorem tpr_mic (mic low : BitVec 4) : (x ++ mic ++ low).extractLsb' 4 4 = mic := by
  simp [BitVec.extractLsb'_append_eq_of_le, BitVec.extractLsb'_append_eq_of_add_le]

theorem tpr_zeros (mic low : BitVec 4) : (x ++ 0#8 ++ mic ++ low).extractLsb' 8 8 = 0 := by
  simp [BitVec.extractLsb'_append_eq_of_le, BitVec.extractLsb'_append_eq_of_add_le]

theorem tpr_mmi (mmi : Bool) (mic low : BitVec 4) :
    (x ++ BitVec.ofBool mmi ++ 0#8 ++ mic ++ low).getLsbD 16 = mmi := by
  simp only [BitVec.getLsbD_append]
  simp

theorem tpr_upper (mmi : BitVec 1) (mic low : BitVec 4) :
    (x ++ mmi ++ 0#8 ++ mic ++ low).extractLsb' 17 k = x := by
  simp [BitVec.extractLsb'_append_eq_of_le]

theorem lvr_zeros (v : Byte) : (x ++ 0#8 ++ v).extractLsb' 8 8 = 0 := by
  simp [BitVec.extractLsb'_append_eq_of_le, BitVec.extractLsb'_append_eq_of_add_le]

theorem lvr_mask (m : Bool) (v : Byte) : (x ++ BitVec.ofBool m ++ 0#8 ++ v).getLsbD 16 = m := by
  simp only [BitVec.getLsbD_append]
  simp

theorem lvr_upper (m : BitVec 1) (v : Byte) : (x ++ m ++ 0#8 ++ v).extractLsb' 17 k = x := by
  simp [BitVec.extractLsb'_append_eq_of_le]

theorem lrr_zeros (dm : DMode) (v : Byte) : (x ++ 0#2 ++ dm ++ v).extractLsb' 11 2 = 0 := by
  simp [BitVec.extractLsb'_append_eq_of_le, BitVec.extractLsb'_append_eq_of_add_le]

theorem lrr_polarity (ipp : Bool) (dm : DMode) (v : Byte) :
    (x ++ BitVec.ofBool ipp ++ 0#2 ++ dm ++ v).getLsbD 13 = ipp := by
  simp only [BitVec.getLsbD_append]
  simp

theorem lrr_unlabelled (ipp : BitVec 1) (dm : DMode) (v : Byte) :
    (x ++ 0#1 ++ ipp ++ 0#2 ++ dm ++ v).getLsbD 14 = false := by
  simp only [BitVec.getLsbD_append]
  simp

theorem lrr_trigger (tm : Bool) (ipp : BitVec 1) (dm : DMode) (v : Byte) :
    (x ++ BitVec.ofBool tm ++ 0#1 ++ ipp ++ 0#2 ++ dm ++ v).getLsbD 15 = tm := by
  simp only [BitVec.getLsbD_append]
  simp

theorem lrr_mask (m : Bool) (tm ipp : BitVec 1) (dm : DMode) (v : Byte) :
    (x ++ BitVec.ofBool m ++ tm ++ 0#1 ++ ipp ++ 0#2 ++ dm ++ v).getLsbD 16 = m := by
  simp only [BitVec.getLsbD_append]
  simp

theorem irr0_pending {j : Nat} (low : BitVec 1) (low' : BitVec 1) (hj : 16 ≤ j) :
    (x ++ 0#13 ++ low ++ 0#1 ++ low').getLsbD j = x.getLsbD (j - 16) := by
  simp only [BitVec.getLsbD_append]
  rw [if_neg (by omega), if_neg (by omega), if_neg (by omega), if_neg (by omega)]
  congr 1

theorem irr0_zeros {j : Nat} (low : BitVec 1) (low' : BitVec 1) (hj : j < 16) (h0 : j ≠ 0) (h2 : j ≠ 2) :
    (x ++ 0#13 ++ low ++ 0#1 ++ low').getLsbD j = false := by
  simp only [BitVec.getLsbD_append]
  rw [if_neg (by omega)]
  split
  · simp
  rw [if_neg (by omega), if_pos (by omega)]
  simp

end layout

/-- LID as read (R161). -/
theorem packLid_fields (l : Lid) (free : Word64) : (packLid l free).extractLsb' 24 8 = l.id ∧
    (packLid l free).extractLsb' 16 8 = l.eid ∧ (packLid l free).extractLsb' 0 16 = 0 :=
  ⟨lid_id .., lid_eid .., BitVec.extractLsb'_append_eq_right⟩

/-- TPR as read (R172). -/
theorem packTpr_fields (t : Tpr) (free : Word64) : (packTpr t free).extractLsb' 4 4 = t.mic ∧
    (packTpr t free).getLsbD 16 = t.mmi ∧ (packTpr t free).extractLsb' 8 8 = 0 ∧
    (packTpr t free).extractLsb' 17 47 = 0 :=
  ⟨tpr_mic .., tpr_mmi .., tpr_zeros .., tpr_upper ..⟩

/-- ITV, PMV and CMCV as read (R174, R176, R178). -/
theorem packLvr_fields (l : Lvr) : (packLvr l).extractLsb' 0 8 = l.vector ∧
    (packLvr l).getLsbD 16 = l.m ∧ (packLvr l).extractLsb' 8 8 = 0 ∧
    (packLvr l).extractLsb' 17 47 = 0 :=
  ⟨data_vector .., lvr_mask .., lvr_zeros .., lvr_upper ..⟩

/-- LRR0 and LRR1 as read (R180, R182). -/
theorem packLrr_fields (l : Lrr) (free : Word64) : (packLrr l free).extractLsb' 0 8 = l.vector ∧
    (packLrr l free).extractLsb' 8 3 = l.dm ∧ (packLrr l free).extractLsb' 11 2 = 0 ∧
    (packLrr l free).getLsbD 13 = l.ipp ∧ (packLrr l free).getLsbD 14 = false ∧
    (packLrr l free).getLsbD 15 = l.tm ∧ (packLrr l free).getLsbD 16 = l.m :=
  ⟨data_vector .., data_mode .., lrr_zeros .., lrr_polarity .., lrr_unlabelled .., lrr_trigger ..,
    lrr_mask ..⟩

/-- IRR0 as read (R163): vectors 16 to 63 above fifteen bits of which two are free. -/
theorem packIrr0_bits (irr : BitVec 256) (free : Word64) :
    (∀ j, 16 ≤ j → j < 64 → (packIrr0 irr free).getLsbD j = irr.getLsbD j) ∧
      ∀ j, j < 16 → j ≠ 0 → j ≠ 2 → (packIrr0 irr free).getLsbD j = false := by
  refine ⟨fun j hlow hhigh => ?_, fun j hlow h0 h2 => irr0_zeros _ _ _ hlow h0 h2⟩
  have hbit : (irr.extractLsb' 16 48).getLsbD (j - 16) = irr.getLsbD j := by
    simp [Nat.add_sub_cancel' hlow, show j - 16 < 48 by omega]
  exact (irr0_pending _ _ _ hlow).trans hbit

theorem packIrr_bit (irr : BitVec 256) (k : Nat) {j : Nat} (hj : j < 64) :
    (packIrr irr k).getLsbD j = irr.getLsbD (64 * k + j) := by
  simp [packIrr, hj]

/-! ### The operations of a processor that runs (R160) -/

section running
variable {s : State} {p : Nat} {P : Proc} {w : Word64}

theorem writeReg_running {reserved : Word64} (f : Proc → Proc) (hrun : Running s p P)
    (hw : w &&& reserved = 0) : writeReg p s w reserved f = .next (s.setProc p (f P)) :=
  (software_running _ hrun).trans (if_pos hw)

theorem writeLrr_unlabelled (f : Proc → Lrr → Proc) (hrun : Running s p P)
    (hw : w.getLsbD 14 = true ∨ w.extractLsb' 11 2 ≠ 0) :
    writeLrr p s w f = .refused .lrrUnlabelledBits :=
  (software_running _ hrun).trans (if_pos (and_lrrUnlabelled_ne_zero hw))

/-- With the unlabelled bits zero, a write is told by its mode alone (R181). -/
theorem writeLrr_labelled (f : Proc → Lrr → Proc) (hrun : Running s p P) (hbit : w.getLsbD 14 = false)
    (hfield : w.extractLsb' 11 2 = 0) :
    writeLrr p s w f = if dmUndefined (unpackLrr w).dm then .refused .undefinedDeliveryMode
      else .next (s.setProc p (f P (unpackLrr w))) :=
  (software_running _ hrun).trans (if_neg (not_not.2 (and_lrrUnlabelled_eq_zero hbit hfield)))

theorem writeLrr_undefined (f : Proc → Lrr → Proc) (hrun : Running s p P) (hbit : w.getLsbD 14 = false)
    (hfield : w.extractLsb' 11 2 = 0) (hdm : w.extractLsb' 8 3 ∈ [0b001#3, 0b011#3, 0b110#3]) :
    writeLrr p s w f = .refused .undefinedDeliveryMode :=
  (writeLrr_labelled f hrun hbit hfield).trans (if_pos (dmUndefined_iff.2 hdm))

theorem writeLrr_defined (f : Proc → Lrr → Proc) (hrun : Running s p P) (hbit : w.getLsbD 14 = false)
    (hfield : w.extractLsb' 11 2 = 0) (hdm : w.extractLsb' 8 3 ∉ [0b001#3, 0b011#3, 0b110#3]) :
    writeLrr p s w f = .next (s.setProc p (f P (unpackLrr w))) :=
  (writeLrr_labelled f hrun hbit hfield).trans (if_neg (mt dmUndefined_iff.1 hdm))

end running

/-- Settles O8: by the layout of LID. -/
theorem lidReadAndWrite : Obligations.LidReadAndWrite := fun s _ P _ hrun =>
  ⟨⟨packLid P.lid.eff (Config.freeWord s.draws), software_running _ hrun, packLid_fields ..⟩,
    fun hlow => writeReg_running _ hrun (and_lidReserved_eq_zero hlow)⟩

/-- Settles O9: bit by bit. -/
theorem irrReads : Obligations.IrrReads := fun s _ P hrun =>
  ⟨⟨packIrr0 P.irr (Config.freeWord s.draws), software_running _ hrun, packIrr0_bits ..⟩,
    ⟨packIrr P.irr 1, software_running _ hrun, fun _ => packIrr_bit _ 1⟩,
    ⟨packIrr P.irr 2, software_running _ hrun, fun _ => packIrr_bit _ 2⟩,
    ⟨packIrr P.irr 3, software_running _ hrun, fun _ => packIrr_bit _ 3⟩⟩

/-- Settles O10: the five writes are one shared operation. -/
theorem readOnlyWritesRaise : Obligations.ReadOnlyWritesRaise := by
  intro s p P w hrun
  have hraise : writeReadOnly p s = .next (s.setProc p { P with flow := .faulted .illegalOperation }) :=
    software_running _ hrun
  exact ⟨hraise, hraise, hraise, hraise, hraise⟩

/-! ### IVR (R168) -/

/-- The pending indication of a reportable vector, told field by field. -/
theorem Proc.clearPending_eq (P : Proc) {v : Nat} (hv : reportable v) :
    P.clearPending v = { P with
      nmiP := P.nmiP && decide (v ≠ 2), extP := P.extP && decide (v ≠ 0),
      irr := if 16 ≤ v then writeBit P.irr v false else P.irr } := by
  rcases hv with rfl | rfl | ⟨hlow, -⟩
  · simp [Proc.clearPending]
  · simp [Proc.clearPending]
  · have h0 : v ≠ 0 := by omega
    have h2 : v ≠ 2 := by omega
    simp [Proc.clearPending, h0, h2, hlow]

theorem Proc.readIvr_of_none {P : Proc} (h : P.hpu = none) : P.readIvr = P.deliver 0x0F := by
  simp [Proc.readIvr, h]

theorem Proc.readIvr_of_some {P : Proc} {v : Nat} (h : P.hpu = some v) :
    P.readIvr = { P with
      nmiP := P.nmiP && decide (v ≠ 2), extP := P.extP && decide (v ≠ 0),
      irr := if 16 ≤ v then writeBit P.irr v false else P.irr,
      insvc := writeBit P.insvc v true, result := BitVec.ofNat 64 v } := by
  simp [Proc.readIvr, h, Proc.clearPending_eq P (hpu_some h).1, Proc.markInService, Proc.deliver]

/-- Settles O12: by whether an interrupt is deliverable; one that is, is reportable. -/
theorem ivrRead : Obligations.IvrRead := by
  intro s p P hrun
  have hread : exec (.movFromIvr p) s = .next (s.setProc p P.readIvr) := software_running _ hrun
  rw [hread]
  refine ⟨fun hnone => by rw [Proc.readIvr_of_none hnone]; rfl, fun v hv => ?_⟩
  have hlt : v < 256 := by
    obtain ⟨hreport, -⟩ := hpu_some hv
    unfold reportable at hreport
    omega
  refine ⟨_, _, by rw [Proc.readIvr_of_some hv], fun j => ?_, fun j => ?_⟩
  · by_cases h16 : 16 ≤ v <;> simp [h16, getLsbD_writeBit]
  · simp [getLsbD_writeBit, hlt]

/-- Settles O13: the write counts, the read draws. -/
theorem eoiWriteAndRead : Obligations.EoiWriteAndRead := fun s _ _ _ hrun =>
  ⟨software_running _ hrun, Config.freeWord s.draws, software_running _ hrun⟩

/-- Settles O14: by the layout of TPR. -/
theorem tprReadAndWrite : Obligations.TprReadAndWrite := fun s _ P _ hrun =>
  ⟨⟨packTpr P.tpr.eff (Config.freeWord s.draws), software_running _ hrun, packTpr_fields ..⟩,
    fun hmid hhigh => writeReg_running _ hrun (and_tprReserved_eq_zero hmid hhigh)⟩

/-- Settles O15: by the one layout of the three registers. -/
theorem lvrReadAndWrite : Obligations.LvrReadAndWrite := by
  intro s p P w hrun
  refine ⟨⟨packLvr P.itv.eff, software_running _ hrun, packLvr_fields _⟩,
    ⟨packLvr P.pmv.eff, software_running _ hrun, packLvr_fields _⟩,
    ⟨packLvr P.cmcv.eff, software_running _ hrun, packLvr_fields _⟩, fun hmid hhigh => ?_⟩
  have hw : w &&& lvrReserved = 0 := lvrReserved_eq ▸ and_tprReserved_eq_zero hmid hhigh
  exact ⟨writeReg_running _ hrun hw, writeReg_running _ hrun hw, writeReg_running _ hrun hw⟩

theorem exec_movToLrr0 (p : Nat) (w : Word64) (s : State) : exec (.movToLrr0 p w) s =
    writeLrr p s w fun P l => { P with lrr0 := P.lrr0.write l } := rfl

theorem exec_movToLrr1 (p : Nat) (w : Word64) (s : State) : exec (.movToLrr1 p w) s =
    writeLrr p s w fun P l => { P with lrr1 := P.lrr1.write l } := rfl

/-- Settles O16: by the layout of both registers, and by the checks of a write in their order. -/
theorem lrrReadAndWrite : Obligations.LrrReadAndWrite := by
  intro s p P w hrun
  rw [exec_movToLrr0, exec_movToLrr1]
  exact ⟨⟨packLrr P.lrr0.eff (Config.freeWord s.draws), software_running _ hrun, packLrr_fields ..⟩,
    ⟨packLrr P.lrr1.eff (Config.freeWord s.draws), software_running _ hrun, packLrr_fields ..⟩,
    fun hw => ⟨writeLrr_unlabelled _ hrun hw, writeLrr_unlabelled _ hrun hw⟩,
    fun hbit hfield hdm =>
      ⟨writeLrr_undefined _ hrun hbit hfield hdm, writeLrr_undefined _ hrun hbit hfield hdm⟩,
    fun hbit hfield hdm =>
      ⟨writeLrr_defined _ hrun hbit hfield hdm, writeLrr_defined _ hrun hbit hfield hdm⟩⟩

/-- Settles O18: each is one write of an architected copy. -/
theorem psrBitWrites : Obligations.PsrBitWrites := fun _ _ _ hrun =>
  ⟨software_running _ hrun, software_running _ hrun, software_running _ hrun⟩

/-- Settles O19: `rfi` and the move that writes IPSR each update their processor once. -/
theorem returnRestoresPsr : Obligations.ReturnRestoresPsr := fun _ _ _ hrun =>
  ⟨software_running _ hrun, fun _ => software_running _ hrun⟩

end Sys2Proof.Machine
end

section
/-! SUPPORT. The operations of `41_io_xapic_ops.md` (R220 to R233), each as what it does when its processor
runs and, behind the window, the unit selects its index; and the operations that are refused on every path. -/

namespace Sys2Proof.Machine

/-! ### Who acts (R220, R224 to R231, R312) -/

section acting
variable {s : State} {p u n x : Nat} {P : Proc} {U : IoUnit} {E : Entry}

theorem onUnit_running (k : Proc → IoUnit → Res) (hrun : Running s p P) (hU : s.units[u]? = some U) :
    onUnit p u s k = k P U :=
  onUnit_some k hrun.1 hrun.2 hU

theorem onWindow_running (k : Proc → IoUnit → Res) (hrun : Running s p P) (hsel : Selects s u U x) :
    onWindow p u x s k = k P U :=
  onWindow_some k hrun.1 hrun.2 hsel.1 hsel.2

theorem onWindowEntry_running (k : Proc → IoUnit → Entry → Res) (hrun : Running s p P)
    (hsel : Selects s u U x) (hE : U.entries[n]? = some E) : onWindowEntry p u x n s k = k P U E :=
  onWindowEntry_some k hrun.1 hrun.2 hsel.1 hsel.2 hE

end acting

/-- A message that arrives is refused for what its effect is refused for: neither the receive step nor the
rule on two holders stands before it (R312, R314). -/
theorem receiveMsg_error {s : State} {q : Nat} {Q : Proc} {m : Msg} {r : Refusal}
    (effect : Proc → Except Refusal Proc) (harr : Arrives s q Q m) (heffect : effect Q = .error r) :
    receiveMsg q m s effect = .refused r := by
  obtain ⟨hQ, hbus, hhint, hholders⟩ := harr
  have hmatches : Q.matches m = true := by
    have hmem : Q ∈ s.holders m := by simp [hholders]
    exact (List.mem_filter.1 hmem).2
  rw [receiveMsg, onProc_some _ hQ, if_pos ⟨hbus, hhint, hmatches⟩,
    unlessDuplicate_unique _ (by simp [hholders]), heffect]

/-! ### What a window load delivers (R124 to R126) -/

section layout
variable {k : Nat} (x : BitVec k)

theorem version_maxRte (top low v : Byte) : (x ++ top ++ low ++ v).extractLsb' 16 8 = top := by
  simp [BitVec.extractLsb'_append_eq_of_le, BitVec.extractLsb'_append_eq_of_add_le]

theorem version_upper (top low v : Byte) : (x ++ top ++ low ++ v).extractLsb' 24 k = x := by
  simp [BitVec.extractLsb'_append_eq_of_le]

theorem rteHi_upper (eid : Byte) : (x ++ eid ++ 0#16).extractLsb' 24 k = x := by
  simp [BitVec.extractLsb'_append_eq_of_le]

theorem rteLo_zero (dm : DMode) (v : Byte) : (x ++ 0#1 ++ dm ++ v).getLsbD 11 = false := by
  simp only [BitVec.getLsbD_append]
  simp

theorem rteLo_status (s : Bool) (z : BitVec 1) (dm : DMode) (v : Byte) :
    (x ++ BitVec.ofBool s ++ z ++ dm ++ v).getLsbD 12 = s := by
  simp only [BitVec.getLsbD_append]
  simp

theorem rteLo_polarity (p : Bool) (s z : BitVec 1) (dm : DMode) (v : Byte) :
    (x ++ BitVec.ofBool p ++ s ++ z ++ dm ++ v).getLsbD 13 = p := by
  simp only [BitVec.getLsbD_append]
  simp

theorem rteLo_trigger (t : Bool) (free p s z : BitVec 1) (dm : DMode) (v : Byte) :
    (x ++ BitVec.ofBool t ++ free ++ p ++ s ++ z ++ dm ++ v).getLsbD 15 = t := by
  simp only [BitVec.getLsbD_append]
  simp

theorem rteLo_mask (m : Bool) (t free p s z : BitVec 1) (dm : DMode) (v : Byte) :
    (x ++ BitVec.ofBool m ++ t ++ free ++ p ++ s ++ z ++ dm ++ v).getLsbD 16 = m := by
  simp only [BitVec.getLsbD_append]
  simp

theorem rteLo_upper (m t free p s z : BitVec 1) (dm : DMode) (v : Byte) :
    (x ++ m ++ t ++ free ++ p ++ s ++ z ++ dm ++ v).extractLsb' 17 k = x := by
  simp [BitVec.extractLsb'_append_eq_of_le]

end layout

/-- Version as read (R126, R224). -/
theorem packVersion_fields (U : IoUnit) : (packVersion U).extractLsb' 0 8 = U.version ∧
    (packVersion U).extractLsb' 8 8 = 0 ∧
    (packVersion U).extractLsb' 16 8 = BitVec.ofNat 8 (U.entries.length - 1) ∧
    (packVersion U).extractLsb' 24 8 = 0 :=
  ⟨data_vector .., lvr_zeros .., version_maxRte .., version_upper ..⟩

/-- The low half of an entry as read, bit 14 left open (R124, R226). -/
theorem packRteLo_fields (E : Entry) (free : Word64) : (packRteLo E free).extractLsb' 0 8 = E.vector ∧
    (packRteLo E free).extractLsb' 8 3 = E.dm ∧ (packRteLo E free).getLsbD 11 = false ∧
    (packRteLo E free).getLsbD 12 = E.s ∧ (packRteLo E free).getLsbD 13 = E.p ∧
    (packRteLo E free).getLsbD 15 = E.t ∧ (packRteLo E free).getLsbD 16 = E.m ∧
    (packRteLo E free).extractLsb' 17 15 = 0 :=
  ⟨data_vector .., data_mode .., rteLo_zero .., rteLo_status .., rteLo_polarity .., rteLo_trigger ..,
    rteLo_mask .., rteLo_upper ..⟩

/-- The high half of an entry as read (R125, R228). -/
theorem packRteHi_fields (E : Entry) : (packRteHi E).extractLsb' 24 8 = E.id ∧
    (packRteHi E).extractLsb' 16 8 = E.eid ∧ (packRteHi E).extractLsb' 0 16 = 0 :=
  ⟨rteHi_upper .., lid_eid .., BitVec.extractLsb'_append_eq_right⟩

/-! ### The check of a low half's datum (R227) -/

section datum
variable {w : Word32}

theorem rteLoCheck_reserved (hhigh : w.extractLsb' 17 15 ≠ 0) : rteLoCheck w = some .ioxReservedField :=
  if_pos hhigh

theorem rteLoCheck_unlabelled (hhigh : w.extractLsb' 17 15 = 0)
    (hbits : w.getLsbD 14 = true ∨ w.getLsbD 11 = true) : rteLoCheck w = some .rteUnlabelledBits :=
  (if_neg (not_not.2 hhigh)).trans (if_pos hbits)

/-- With every field zero that must be, the datum is told by its mode alone. -/
theorem rteLoCheck_labelled (hhigh : w.extractLsb' 17 15 = 0) (h14 : w.getLsbD 14 = false)
    (h11 : w.getLsbD 11 = false) :
    rteLoCheck w = if dmUndefinedRte (w.extractLsb' 8 3) then some .undefinedDeliveryMode else none :=
  (if_neg (not_not.2 hhigh)).trans (if_neg (by rw [h14, h11]; simp))

end datum

/-! ### What a store to the low half makes of an entry (R227, R301) -/

section storeLo
variable {E : Entry} {w : Word32} {free : Bool} {r : Refusal}

theorem unmask_error (hedge : E.teff = false) (hactive : E.active = true) (hfire : E.fireCheck = some r) :
    E.unmask free = .error r := by
  simp [Entry.unmask, hedge, hactive, hfire]

theorem unmask_latch (hedge : E.teff = false) (hactive : E.active = true) (hfire : E.fireCheck = none) :
    E.unmask free = .ok { E with s := E.s || free } := by
  simp [Entry.unmask, hedge, hactive, hfire]

theorem unmask_quiet (hquiet : ¬ (E.teff = false ∧ E.active = true)) : E.unmask free = .ok E :=
  if_neg hquiet

theorem storeLo_masking (hm : E.m = false) (hm' : (E.withLo w).m = true) :
    E.storeLo w free = .ok (if E.s then { E.withLo w with s := free } else E.withLo w) :=
  if_pos ⟨hm, hm'⟩

theorem storeLo_unmasking (hm : E.m = true) (hm' : (E.withLo w).m = false) :
    E.storeLo w free = (E.withLo w).unmask free :=
  (if_neg (by simp [hm])).trans (if_pos ⟨hm, hm'⟩)

theorem storeLo_mask_kept (hm : (E.withLo w).m = E.m) : E.storeLo w free = .ok (E.withLo w) :=
  (if_neg (by rw [hm]; simp)).trans (if_neg (by rw [hm]; simp))

/-- The delivery status is left alone but where R301 allows otherwise: when an entry that has one is masked,
and when an edge entry is unmasked while its pin is active. -/
theorem storeLo_status_kept
    (hmask : ¬ (E.m = false ∧ (E.withLo w).m = true ∧ E.s = true))
    (hunmask : ¬ (E.m = true ∧ (E.withLo w).m = false ∧ (E.withLo w).teff = false ∧
      (E.withLo w).active = true)) :
    E.storeLo w free = .ok (E.withLo w) := by
  cases hm : E.m <;> cases hm' : (E.withLo w).m
  case false.true =>
    have hs : ¬ E.s = true := fun hs => hmask ⟨hm, hm', hs⟩
    rw [storeLo_masking hm hm', if_neg hs]
  case true.false =>
    rw [storeLo_unmasking hm hm', unmask_quiet fun h => hunmask ⟨hm, hm', h⟩]
  case false.false => exact storeLo_mask_kept (hm'.trans hm.symm)
  case true.true => exact storeLo_mask_kept (hm'.trans hm.symm)

end storeLo

/-! ### The store to the low half (R227) -/

section rteLowStore
variable {s : State} {p u n : Nat} {P : Proc} {U : IoUnit} {E E' : Entry} {w : Word32} {r : Refusal}

theorem execRteLowStore_refused_datum (hrun : Running s p P) (hsel : Selects s u U (0x10 + 2 * n))
    (hE : U.entries[n]? = some E) (hcheck : rteLoCheck w = some r) :
    exec (.ioxWinSt4Rtelo p u n w) s = .refused r := by
  refine (onWindowEntry_running _ hrun hsel hE).trans ?_
  simp only [hcheck]

theorem execRteLowStore_refused_entry (hrun : Running s p P) (hsel : Selects s u U (0x10 + 2 * n))
    (hE : U.entries[n]? = some E) (hcheck : rteLoCheck w = none)
    (hstore : E.storeLo w (Config.freeBool s.draws) = .error r) :
    exec (.ioxWinSt4Rtelo p u n w) s = .refused r := by
  refine (onWindowEntry_running _ hrun hsel hE).trans ?_
  simp only [hcheck, hstore]

theorem execRteLowStore_next (hrun : Running s p P) (hsel : Selects s u U (0x10 + 2 * n))
    (hE : U.entries[n]? = some E) (hcheck : rteLoCheck w = none)
    (hstore : E.storeLo w (Config.freeBool s.draws) = .ok E') :
    exec (.ioxWinSt4Rtelo p u n w) s = .next (s.withEntry u n U E') := by
  refine (onWindowEntry_running _ hrun hsel hE).trans ?_
  simp only [hcheck, hstore, State.withEntry]

end rteLowStore

/-- Settles O26: first the checks of the datum in their order, then the cases of R301 for the delivery
status. -/
theorem rteLowStore : Obligations.RteLowStore := by
  intro s p u n P U E E' w hrun hsel hE hE'
  change E' = E.withLo w at hE'
  subst hE'
  refine ⟨fun hhigh => execRteLowStore_refused_datum hrun hsel hE (rteLoCheck_reserved hhigh),
    fun hhigh hbits => execRteLowStore_refused_datum hrun hsel hE (rteLoCheck_unlabelled hhigh hbits),
    fun hhigh h14 h11 => ⟨fun hdm => ?undefinedMode, fun hdm => ?stored⟩⟩
  case undefinedMode =>
    exact execRteLowStore_refused_datum hrun hsel hE
      ((rteLoCheck_labelled hhigh h14 h11).trans (if_pos (dmUndefinedRte_iff.2 hdm)))
  case stored =>
    have hcheck : rteLoCheck w = none :=
      (rteLoCheck_labelled hhigh h14 h11).trans (if_neg (mt dmUndefinedRte_iff.1 hdm))
    refine ⟨fun hm hm' hs => ⟨Config.freeBool s.draws, ?masked⟩,
      fun hm hm' hedge hactive => ⟨fun r hfire => ?unmaskRefused, fun hfire =>
        ⟨E.s || Config.freeBool s.draws, fun hs => by simp [hs], ?unmasked⟩⟩,
      fun hmask hunmask =>
        execRteLowStore_next hrun hsel hE hcheck (storeLo_status_kept hmask hunmask)⟩
    case masked =>
      exact execRteLowStore_next hrun hsel hE hcheck
        ((storeLo_masking hm hm').trans (by rw [if_pos hs]))
    case unmaskRefused =>
      exact execRteLowStore_refused_entry hrun hsel hE hcheck
        ((storeLo_unmasking hm hm').trans (unmask_error hedge hactive hfire))
    case unmasked =>
      exact execRteLowStore_next hrun hsel hE hcheck
        ((storeLo_unmasking hm hm').trans (unmask_latch hedge hactive hfire))

/-! ### The other operations -/

/-- Settles O21: nothing but who acts is looked at before the refusal. -/
theorem alwaysRefused : Obligations.AlwaysRefused := by
  intro s p n u P U a d st x w m
  refine ⟨fun hrun => ⟨software_running _ hrun, software_running _ hrun, software_running _ hrun,
      fun hsel => onWindow_running _ hrun hsel,
      fun hsel => ⟨onWindow_running _ hrun hsel, onWindow_running _ hrun hsel⟩,
      fun hU hassert => (onUnit_running _ hrun hU).trans (if_pos hassert),
      fun hU hassert => (onUnit_running _ hrun hU).trans (if_neg (by simp [hassert]))⟩,
    fun harr => receiveMsg_error (fun _ => .error .undefinedDeliveryMode) harr rfl,
    fun harr => receiveMsg_error (fun _ => .error .undefinedDeliveryMode) harr rfl,
    fun harr => receiveMsg_error (fun _ => .error .undefinedDeliveryMode) harr rfl⟩

/-- Settles O23: by whether the value has 8 bits. -/
theorem selectRegister : Obligations.SelectRegister := fun _ _ _ _ _ _ hrun hU =>
  ⟨fun hhigh => (onUnit_running _ hrun hU).trans (if_neg (not_not.2 hhigh)),
    fun hhigh => (onUnit_running _ hrun hU).trans (if_pos hhigh), onUnit_running _ hrun hU⟩

/-- Settles O24: by the layouts of Version and of the low half. -/
theorem versionAndRteLowRead : Obligations.VersionAndRteLowRead :=
  ⟨fun _ _ _ _ U hrun hsel => ⟨packVersion U, onWindow_running _ hrun hsel, packVersion_fields U⟩,
    fun s _ _ _ _ _ E hrun hsel hE => ⟨packRteLo E (Config.freeWord s.draws),
      onWindowEntry_running _ hrun hsel hE, packRteLo_fields ..⟩⟩

/-- Settles O25: by the layout of the high half, and by whether its reserved field is zero. -/
theorem rteHighReadAndStore : Obligations.RteHighReadAndStore := fun _ _ _ _ _ _ E _ hrun hsel hE =>
  ⟨⟨packRteHi E, onWindowEntry_running _ hrun hsel hE, packRteHi_fields E⟩,
    fun hlow => (onWindowEntry_running _ hrun hsel hE).trans (if_neg (not_not.2 hlow)),
    fun hlow => (onWindowEntry_running _ hrun hsel hE).trans (if_pos hlow)⟩

/-- Settles O27: the checks in their order, then the release entry by entry. -/
theorem ioEoiReleases : Obligations.IoEoiReleases := by
  intro s p u P U w hrun hU
  refine ⟨fun habsent => (onUnit_running _ hrun hU).trans (if_pos habsent),
    fun hpresent hhigh => (onUnit_running _ hrun hU).trans
      ((if_neg (by simp [hpresent])).trans (if_pos hhigh)),
    fun hpresent hhigh => ⟨U.entries.map (Entry.ioEoi (w.extractLsb' 0 8)),
      (onUnit_running _ hrun hU).trans ((if_neg (by simp [hpresent])).trans (if_neg (not_not.2 hhigh))),
      fun n => List.getElem?_map⟩⟩

end Sys2Proof.Machine
end

section
/-! SUPPORT. The operations of `42_pib_ops.md` (R260 to R266) that have an effect: the bus an IPI goes to, the
checks before it is sent, the XTP store and the INTA load. -/

namespace Sys2Proof.Machine

/-! ### The bus of a destination (R304) -/

theorem destBus_of_holder {s : State} {m : Msg} {Q : Proc} (h : s.holders m = [Q]) :
    destBus s m = .ok Q.bus := by
  simp only [destBus, h]

/-- A destination that no processor holds has a bus on every platform, without processors too (log 19). -/
theorem destBus_of_unheld {s : State} {m : Msg} (h : s.holders m = []) : ∃ b, destBus s m = .ok b := by
  simp only [destBus, h]
  split
  next P _ => exact ⟨P.bus, rfl⟩
  next => exact ⟨0, rfl⟩

/-! ### The check of an IPI datum (R134, R261) -/

section datum
variable {d : Word64}

theorem ipiDatumCheck_reserved (hhigh : d.extractLsb' 11 53 ≠ 0) :
    ipiDatumCheck d = some .ipiReservedField :=
  if_pos hhigh

theorem ipiDatumCheck_undefined (hhigh : d.extractLsb' 11 53 = 0)
    (hdm : d.extractLsb' 8 3 ∈ [0b001#3, 0b011#3, 0b110#3]) :
    ipiDatumCheck d = some .undefinedDeliveryMode :=
  (if_neg (not_not.2 hhigh)).trans (if_pos (dmUndefined_iff.2 hdm))

theorem ipiDatumCheck_defined (hhigh : d.extractLsb' 11 53 = 0)
    (hdm : d.extractLsb' 8 3 ∉ [0b001#3, 0b011#3, 0b110#3]) : ipiDatumCheck d = none :=
  (if_neg (not_not.2 hhigh)).trans (if_neg (mt dmUndefined_iff.1 hdm))

end datum

/-! ### The IPI store (R261) -/

/-- `a` is the address of an IPI store of platform `c`: aligned, in the lower 1 MB of the PIB (R82, R92). -/
structure IpiTarget (c : Platform) (a : Word64) : Prop where
  low : c.pibBase.toNat ≤ a.toNat
  high : a.toNat < c.pibBase.toNat + 0x100000
  aligned : a.extractLsb' 0 3 = 0

theorem IpiTarget.pibOffset_eq {c : Platform} {a : Word64} (h : IpiTarget c a) :
    pibOffset c a = some (a.toNat - c.pibBase.toNat) :=
  pibOffset_inside h.low (by have := h.high; omega)

theorem IpiTarget.offset_lt {c : Platform} {a : Word64} (h : IpiTarget c a) :
    a.toNat - c.pibBase.toNat < 0x100000 := by
  have := h.low
  have := h.high
  omega

section ipiStore
variable {s : State} {p b : Nat} {P : Proc} {a d : Word64} {r : Refusal}

theorem execIpiSt8_refused_datum (hrun : Running s p P) (ha : IpiTarget s.plat a)
    (hcheck : ipiDatumCheck d = some r) : exec (.ipiSt8 p a d) s = .refused r := by
  refine (software_running _ hrun).trans ?_
  simp only [ha.pibOffset_eq, if_neg ha.offset_lt.not_ge, if_neg (not_not.2 ha.aligned), hcheck]

theorem execIpiSt8_next (hrun : Running s p P) (ha : IpiTarget s.plat a)
    (hcheck : ipiDatumCheck d = none) (hbus : destBus s (ipiMsg a d) = .ok b) :
    exec (.ipiSt8 p a d) s = .next (s.sendSys b (ipiMsg a d)).tick := by
  refine (software_running _ hrun).trans ?_
  simp only [ha.pibOffset_eq, if_neg ha.offset_lt.not_ge, if_neg (not_not.2 ha.aligned), hcheck, hbus]

end ipiStore

/-- Settles O20: the checks of the datum in their order, then by who holds the destination. -/
theorem ipiStore : Obligations.IpiStore := by
  rintro s p P a d m hrun hlow hhigh haligned rfl
  have ha : IpiTarget s.plat a := ⟨hlow, hhigh, haligned⟩
  refine ⟨fun hres => execIpiSt8_refused_datum hrun ha (ipiDatumCheck_reserved hres),
    fun hres hdm => execIpiSt8_refused_datum hrun ha (ipiDatumCheck_undefined hres hdm),
    fun hres hdm => ?_⟩
  have hcheck : ipiDatumCheck d = none := ipiDatumCheck_defined hres hdm
  refine ⟨fun Q hheld => execIpiSt8_next hrun ha hcheck (destBus_of_holder hheld), fun hunheld => ?_⟩
  obtain ⟨b, hbus⟩ := destBus_of_unheld hunheld
  exact ⟨b, execIpiSt8_next hrun ha hcheck hbus⟩

/-! ### The XTP store and the INTA load (R264, R265) -/

section upperPib
variable {s : State} {p : Nat} {P : Proc} {a : Word64}

theorem execXtpSt1_atXtp (b : Byte) (hrun : Running s p P)
    (ha : pibOffset s.plat a = some s.plat.xtpOffset) :
    exec (.xtpSt1 p a b) s =
      if s.plat.hasIoRedirect ∨ s.plat.hasIpiRedirect then .next (s.setProc p { P with xtp := b })
      else .next s :=
  (software_running _ hrun).trans (if_pos ha)

theorem execIntaLd1_atInta (hrun : Running s p P)
    (ha : pibOffset s.plat a = some s.plat.intaOffset) :
    exec (.intaLd1 p a) s =
      if s.plat.has8259 then .next (s.setProc p (P.deliver ((Config.freeInta s.draws).setWidth 64))).tick
      else .refused .noExternalController :=
  (software_running _ hrun).trans (if_pos ha)

end upperPib

/-- Settles O22: by what the platform redirects and whether it has an external controller, whose answer is
the byte delivered. -/
theorem xtpStoreAndIntaLoad : Obligations.XtpStoreAndIntaLoad := by
  intro s p P a b hrun
  refine ⟨fun hxtp => ⟨fun hredirect => ?redirects, fun hio hipi => ?plain⟩,
    fun hinta => ⟨fun hext => ⟨Config.freeInta s.draws, ?answered⟩, fun hext => ?absent⟩⟩
  case redirects => exact (execXtpSt1_atXtp b hrun hxtp).trans (if_pos hredirect)
  case plain => exact (execXtpSt1_atXtp b hrun hxtp).trans (if_neg (by simp [hio, hipi]))
  case answered => exact (execIntaLd1_atInta hrun hinta).trans (if_pos hext)
  case absent => exact (execIntaLd1_atInta hrun hinta).trans (if_neg (by simp [hext]))

end Sys2Proof.Machine
end

section
/-! SUPPORT. The messages of `43_message_delivery.md`: receipt (R312 to R319), two holders of a destination
(R314), and routing: the bridge (R304 to R307), hinted IPIs (R309, R310) and drops (R313). -/

namespace Sys2Proof.Machine

/-! ### A bit that is pended (R22, R34) -/

theorem getLsbD_writeBit_true {n i : Nat} (x : BitVec n) (hi : i < n) (j : Nat) :
    (writeBit x i true).getLsbD j = if j = i then true else x.getLsbD j := by
  simp [getLsbD_writeBit, hi]

section pending
variable {v : Byte} {P : Proc}

theorem pendInt_reserved (hv : v.toNat < 16) : P.pendInt v = .error .intReservedVector :=
  if_pos hv

theorem pendInt_valid (hv : 16 ≤ v.toNat) :
    P.pendInt v = .ok { P with irr := writeBit P.irr v.toNat true } :=
  if_neg hv.not_gt

theorem pendPmi_reserved (hv : 15 < v.toNat) : P.pendPmi v = .error .pmiVectorAbove15 :=
  if_pos hv

theorem pendPmi_valid (hv : v.toNat ≤ 15) :
    P.pendPmi v = .ok { P with pmiP := writeBit P.pmiP v.toNat true } :=
  if_neg hv.not_gt

end pending

/-! ### The holders of a destination (R312, R314, R65) -/

theorem State.mem_holders {s : State} {m : Msg} {Q : Proc} :
    Q ∈ s.holders m ↔ Q ∈ s.procs ∧ Q.matches m = true :=
  List.mem_filter

theorem Proc.matches_iff {P : Proc} {m : Msg} :
    P.matches m = true ↔ P.lid.eff.id = m.id ∧ P.lid.eff.eid = m.eid := by
  simp [Proc.matches]

/-- Two holders of one destination would have one identifier (R65). -/
theorem State.UniqueLids.holders_length_le {s : State} (h : s.UniqueLids) (m : Msg) :
    (s.holders m).length ≤ 1 := by
  match hheld : s.holders m with
  | [] => exact Nat.zero_le 1
  | [_] => exact Nat.le_refl 1
  | P :: Q :: rest =>
    have hdistinct : (P :: Q :: rest).Pairwise fun P Q =>
        ¬ (P.lid.eff.id = Q.lid.eff.id ∧ P.lid.eff.eid = Q.lid.eff.eid) := hheld ▸ h.filter _
    have hholds (R : Proc) (hR : R ∈ P :: Q :: rest) : R.lid.eff.id = m.id ∧ R.lid.eff.eid = m.eid :=
      Proc.matches_iff.1 (State.mem_holders.1 (hheld ▸ hR)).2
    obtain ⟨hPid, hPeid⟩ := hholds P (by simp)
    obtain ⟨hQid, hQeid⟩ := hholds Q (by simp)
    exact absurd ⟨hPid.trans hQid.symm, hPeid.trans hQeid.symm⟩
      (List.rel_of_pairwise_cons hdistinct List.mem_cons_self)

/-! ### Receipt (R312, R315 to R319) -/

theorem receiveMsg_ok {s : State} {q : Nat} {Q Q' : Proc} {m : Msg}
    (effect : Proc → Except Refusal Proc) (harr : Arrives s q Q m) (heffect : effect Q = .ok Q') :
    receiveMsg q m s effect = .next (s.received q Q Q' m) := by
  obtain ⟨hQ, hbus, hhint, hholders⟩ := harr
  have hholds : Q ∈ s.holders m := hholders ▸ List.mem_singleton_self Q
  rw [receiveMsg, onProc_some _ hQ, if_pos ⟨hbus, hhint, (State.mem_holders.1 hholds).2⟩,
    unlessDuplicate_unique _ (by simp [hholders]), heffect]
  rfl

/-- Settles O28: by the bounds of the vectors that INT and PMI pend. -/
theorem receiveIntAndPmi : Obligations.ReceiveIntAndPmi := fun _ _ Q _ =>
  ⟨fun harr => ⟨fun hv => ⟨_, receiveMsg_ok _ harr (pendInt_valid hv),
      getLsbD_writeBit_true Q.irr (BitVec.isLt _)⟩,
      fun hv => receiveMsg_error _ harr (pendInt_reserved hv)⟩,
    fun harr => ⟨fun hv => ⟨_, receiveMsg_ok _ harr (pendPmi_valid hv),
      getLsbD_writeBit_true Q.pmiP (Nat.lt_succ_of_le hv)⟩,
      fun hv => receiveMsg_error _ harr (pendPmi_reserved hv)⟩⟩

/-- Settles O29: the effect of these receipts on the receiver is the one bit, for every vector. -/
theorem receiveNmiExtIntInit : Obligations.ReceiveNmiExtIntInit := fun _ _ _ _ =>
  ⟨fun harr => receiveMsg_ok (fun Q => .ok Q.pendNmi) harr rfl,
    fun harr => receiveMsg_ok (fun Q => .ok Q.pendExtInt) harr rfl,
    fun harr => receiveMsg_ok (fun Q => .ok Q.pendInit) harr rfl⟩

/-- The receipt of a message of any mode is a receive step; the mode tells its effect alone (R312). -/
theorem exec_recvInstr (m : Msg) : ∃ effect : Proc → Except Refusal Proc, ∀ (q : Nat) (s : State),
    exec (recvInstr q m) s = receiveMsg q m s effect := by
  obtain ⟨id, eid, h, dm, vector, t⟩ := m
  obtain rfl | rfl | rfl | rfl | rfl | rfl | rfl | rfl := dm.named
  · exact ⟨Proc.pendInt vector, fun _ _ => rfl⟩
  · exact ⟨fun _ => .error .undefinedDeliveryMode, fun _ _ => rfl⟩
  · exact ⟨Proc.pendPmi vector, fun _ _ => rfl⟩
  · exact ⟨fun _ => .error .undefinedDeliveryMode, fun _ _ => rfl⟩
  · exact ⟨fun Q => .ok Q.pendNmi, fun _ _ => rfl⟩
  · exact ⟨fun Q => .ok Q.pendInit, fun _ _ => rfl⟩
  · exact ⟨fun _ => .error .undefinedDeliveryMode, fun _ _ => rfl⟩
  · exact ⟨fun Q => .ok Q.pendExtInt, fun _ _ => rfl⟩

/-! ### Two holders (R314; log 18) -/

section duplicate
variable {s : State} {m : Msg}

theorem unlessDuplicate_duplicate (r : Res) (hdup : 2 ≤ (s.holders m).length) :
    unlessDuplicate s m r = .refused .duplicateLids :=
  if_pos hdup

theorem receiveMsg_duplicate {q : Nat} {Q : Proc} (effect : Proc → Except Refusal Proc)
    (hQ : s.procs[q]? = some Q) (hbus : (Q.bus, m) ∈ s.sysBus) (hhint : m.h = false)
    (hholds : Q ∈ s.holders m) (hdup : 2 ≤ (s.holders m).length) :
    receiveMsg q m s effect = .refused .duplicateLids := by
  rw [receiveMsg, onProc_some _ hQ, if_pos ⟨hbus, hhint, (State.mem_holders.1 hholds).2⟩,
    unlessDuplicate_duplicate _ hdup]

theorem destBus_duplicate (hdup : 2 ≤ (s.holders m).length) : destBus s m = .error .duplicateLids := by
  match hheld : s.holders m with
  | [] | [_] => simp [hheld] at hdup
  | _ :: _ :: _ => simp only [destBus, hheld]

theorem forward_duplicate (targets : Nat → List Proc) (hdup : 2 ≤ (s.holders m).length) :
    forward s m targets = .refused .duplicateLids := by
  simp only [forward, destBus_duplicate hdup]

theorem execIpiSt8_duplicate {p : Nat} {P : Proc} {a d : Word64} (hrun : Running s p P)
    (ha : IpiTarget s.plat a) (hcheck : ipiDatumCheck d = none)
    (hdup : 2 ≤ (s.holders (ipiMsg a d)).length) :
    exec (.ipiSt8 p a d) s = .refused .duplicateLids := by
  refine (software_running _ hrun).trans ?_
  simp only [ha.pibOffset_eq, if_neg ha.offset_lt.not_ge, if_neg (not_not.2 ha.aligned), hcheck,
    destBus_duplicate hdup]

theorem step_ioBus_duplicate (hm : m ∈ s.ioBus) (hdup : 2 ≤ (s.holders m).length) :
    step s = .refused .duplicateLids := by
  refine step_duplicate (Bool.not_eq_false _ ▸ fun hnone => ?_)
  exact hdup.not_gt ((duplicateHeld_eq_false.1 hnone).1 m hm)

theorem step_sysBus_duplicate {b : Nat} (hm : (b, m) ∈ s.sysBus) (hdup : 2 ≤ (s.holders m).length) :
    step s = .refused .duplicateLids := by
  refine step_duplicate (Bool.not_eq_false _ ▸ fun hnone => ?_)
  exact hdup.not_gt ((duplicateHeld_eq_false.1 hnone).2 (b, m) hm)

end duplicate

/-! ### Who takes a message: the bridge, the chipset, nobody (R304, R309, R313) -/

section routing
variable {s : State} {m : Msg} {b : Nat}

theorem bridge_taken (hm : m ∈ s.ioBus) (hdata : s.waitsForData (s.ioBus.idxOf m) = false) :
    bridge m s = forward { s with
        ioBus := s.ioBus.erase m, stores := s.stores.map PendingStore.passed } m fun b =>
      if m.h ∧ s.plat.hasIoRedirect then redirectTargets s b else [] :=
  if_pos ⟨hm, hdata⟩

theorem ipiHint_taken (hm : (b, m) ∈ s.sysBus) (hhint : m.h = true) :
    ipiHint b m s = unlessDuplicate s m
      (if s.plat.hasIpiRedirect then
        if m.dm ≠ DMode.int then .refused .hintNotInt
        else forward { s with sysBus := s.sysBus.erase (b, m) } m fun d =>
          if s.plat.ipiXtp then redirectTargets s d else []
      else .next { s with sysBus := s.sysBus.erase (b, m) }) :=
  if_pos ⟨hm, hhint⟩

theorem dropMsg_taken (hm : (b, m) ∈ s.sysBus) (hhint : m.h = false)
    (hnone : ∀ P ∈ s.procs, P.bus = b → P.matches m = false) :
    dropMsg b m s = unlessDuplicate s m (.next { s with sysBus := s.sysBus.erase (b, m) }) := by
  refine if_pos ⟨hm, hhint, List.all_eq_true.2 fun P hP => ?_⟩
  by_cases hbus : P.bus = b
  · simp [hnone P hP hbus]
  · simp [hbus]

end routing

/-- Settles O30: every receipt and drop looks for two holders, every routing asks for the destination's bus,
and the step looks at all that is on a bus. -/
theorem duplicateIdentifiers : Obligations.DuplicateIdentifiers := by
  refine ⟨fun s q Q m hQ hbus hhint hholds hdup => ?receipt,
    fun s p P a d hrun hlow hhigh haligned hres hdm hdup => ?ipiStore,
    fun s m hm hdup => ⟨fun hdata => ?bridge, step_ioBus_duplicate hm hdup⟩,
    fun s b m hm hdup => ⟨fun hhint => ?hinted, fun hhint hnone => ?dropped,
      step_sysBus_duplicate hm hdup⟩,
    fun s huniq => ⟨huniq.holders_length_le, ?distinct⟩⟩
  case receipt =>
    obtain ⟨effect, hexec⟩ := exec_recvInstr m
    rw [hexec, receiveMsg_duplicate effect hQ hbus hhint hholds hdup]
  case ipiStore =>
    exact execIpiSt8_duplicate hrun ⟨hlow, hhigh, haligned⟩ (ipiDatumCheck_defined hres hdm) hdup
  case bridge => exact (bridge_taken hm hdata).trans (forward_duplicate _ hdup)
  case hinted => exact (ipiHint_taken hm hhint).trans (unlessDuplicate_duplicate _ hdup)
  case dropped => exact (dropMsg_taken hm hhint hnone).trans (unlessDuplicate_duplicate _ hdup)
  case distinct =>
    exact duplicateHeld_eq_false.2 ⟨fun m _ => Nat.lt_succ_of_le (huniq.holders_length_le m),
      fun x _ => Nat.lt_succ_of_le (huniq.holders_length_le x.2)⟩

/-! ### What is forwarded (R304 to R307) -/

section forwarding
variable {s : State} {m : Msg} {b : Nat}

theorem destBus_of_atMostOne (hone : (s.holders m).length ≤ 1) :
    ∃ b, destBus s m = .ok b ∧ ∀ Q, s.holders m = [Q] → b = Q.bus := by
  match hheld : s.holders m with
  | [] =>
    obtain ⟨b, hbus⟩ := destBus_of_unheld hheld
    exact ⟨b, hbus, fun Q hQ => nomatch hQ⟩
  | [P] => exact ⟨P.bus, destBus_of_holder hheld, fun Q hQ => by cases hQ; rfl⟩
  | _ :: _ :: _ => simp [hheld] at hone

theorem forward_next_of_destBus (targets : Nat → List Proc) (hbus : destBus s m = .ok b) :
    forward s m targets = .next { s with
      sysBus := s.sysBus ++ [(b, redirected s.tick (targets b) m)], draws := s.draws + 2 } := by
  simp only [forward, hbus]
  rfl

theorem forward_unredirected {targets : Nat → List Proc} (hbus : destBus s m = .ok b)
    (hnone : targets b = []) :
    forward s m targets = .next { s with
      sysBus := s.sysBus ++ [(b, { m with h := false })], draws := s.draws + 2 } := by
  rw [forward_next_of_destBus targets hbus, hnone, redirected_nil]

/-- The destination of a forwarded message is as before, or that of one of the targets on its bus. -/
theorem forward_redirected (targets : Nat → List Proc) (hone : (s.holders m).length ≤ 1) :
    ∃ b id eid, forward s m targets = .next { s with
        sysBus := s.sysBus ++ [(b, { m with id := id, eid := eid, h := false })],
        draws := s.draws + 2 } ∧
      (∀ Q, s.holders m = [Q] → b = Q.bus) ∧
      ((id = m.id ∧ eid = m.eid) ∨
        ∃ T ∈ targets b, id = T.lid.eff.id ∧ eid = T.lid.eff.eid) := by
  obtain ⟨b, hbus, hholder⟩ := destBus_of_atMostOne hone
  have hnext := forward_next_of_destBus targets hbus
  obtain hkept | ⟨T, hT, htaken⟩ := redirected_cases s.tick (targets b) m
  · exact ⟨b, m.id, m.eid, hkept ▸ hnext, hholder, .inl ⟨rfl, rfl⟩⟩
  · exact ⟨b, T.lid.eff.id, T.lid.eff.eid, htaken ▸ hnext, hholder, .inr ⟨T, hT, rfl, rfl⟩⟩

end forwarding

/-- Settles O43: a message passed through has no target, so only the hint is cleared. -/
theorem bridgePassThrough : Obligations.BridgePassThrough := by
  intro s m hm hdata hplain
  have hnone (b : Nat) : (if m.h ∧ s.plat.hasIoRedirect then redirectTargets s b else []) = [] :=
    if_neg fun h => by obtain hh | hr := hplain <;> simp_all
  refine ⟨fun Q hheld => ?held, fun hunheld => ?unheld⟩
  case held =>
    exact (bridge_taken hm hdata).trans (forward_unredirected (destBus_of_holder hheld) (hnone _))
  case unheld =>
    obtain ⟨b, hbus⟩ := destBus_of_unheld hunheld
    exact ⟨b, (bridge_taken hm hdata).trans (forward_unredirected hbus (hnone b))⟩

/-- Settles O44: the targets on a bus are its enabled processors of least XTP priority. -/
theorem bridgeRedirection : Obligations.BridgeRedirection := by
  intro s m hm hdata hhint hredir hone
  obtain ⟨b, id, eid, hnext, hholder, hdest⟩ := forward_redirected
    (s := { s with ioBus := s.ioBus.erase m, stores := s.stores.map PendingStore.passed })
    (fun b => if m.h ∧ s.plat.hasIoRedirect then redirectTargets s b else []) hone
  refine ⟨b, id, eid, (bridge_taken hm hdata).trans hnext, hholder, hdest.imp_right ?_⟩
  rintro ⟨T, hT, hid, heid⟩
  rw [if_pos ⟨hhint, hredir⟩] at hT
  obtain ⟨hproc, hbus, hon, hleast⟩ := mem_redirectTargets hT
  exact ⟨T, hproc, hbus, hon, hleast, hid, heid⟩

/-- Settles O45: by what the platform does with a hint, and, where it redirects, by the targets that a
chipset with XTP registers has. -/
theorem hintedIpiAndDrop : Obligations.HintedIpiAndDrop := by
  intro s b m hm hone
  have hunique (r : Res) : unlessDuplicate s m r = r := unlessDuplicate_unique r (by omega)
  have htaken (hhint : m.h = true) := (ipiHint_taken hm hhint).trans (hunique _)
  refine ⟨fun hhint hplain => ?lost, fun hhint hredir hdm => ?notInt, fun hhint hredir hdm => ?taken,
    fun hhint hnone => (dropMsg_taken hm hhint hnone).trans (hunique _)⟩
  case lost => exact (htaken hhint).trans (if_neg (by simp [hplain]))
  case notInt => exact (htaken hhint).trans ((if_pos hredir).trans (if_pos hdm))
  case taken =>
    have hforward := (htaken hhint).trans ((if_pos hredir).trans (if_neg (not_not.2 hdm)))
    obtain ⟨d, id, eid, hnext, hholder, hdest⟩ := forward_redirected
      (s := { s with sysBus := s.sysBus.erase (b, m) })
      (fun d => if s.plat.ipiXtp then redirectTargets s d else []) hone
    refine ⟨d, id, eid, hforward.trans hnext, hholder, hdest.imp_right ?_⟩
    rintro ⟨T, hT, hid, heid⟩
    split at hT
    next hxtp =>
      obtain ⟨hproc, hbus, hon, hleast⟩ := mem_redirectTargets hT
      exact ⟨hxtp, T, hproc, hbus, hon, hleast, hid, heid⟩
    · cases hT

end Sys2Proof.Machine
end

section
/-! SUPPORT. The pins and events of `43_message_delivery.md`: internal events (R322 to R324), LINT pins (R325
to R329), driven pins (R330 to R333), and the entries of an I/O xAPIC unit: what may fire (R294), the sample
of a pin (R291 to R300) and the send (R297). -/

namespace Sys2Proof.Machine

/-! ### Levels (R291) -/

theorem activeLevel_iff {polarity level : Bool} :
    activeLevel polarity level = true ↔ level = !polarity := by
  simp [activeLevel_eq]

theorem inactiveLevel_iff {polarity level : Bool} :
    activeLevel polarity level = false ↔ level = polarity := by
  simp [activeLevel_eq]

/-! ### Internal events (R322 to R324) -/

section localEvent
variable {s : State} {p : Nat} {P : Proc} {lvr : Proc → Lvr}

theorem localEvent_masked (hP : s.procs[p]? = some P) (hm : (lvr P).m = true) :
    localEvent p s lvr = .next s :=
  (onProc_some _ hP).trans (if_pos hm)

theorem localEvent_reserved (hP : s.procs[p]? = some P) (hm : (lvr P).m = false)
    (hv : (lvr P).vector.toNat < 16) : localEvent p s lvr = .refused .lvrReservedVector :=
  (onProc_some _ hP).trans ((if_neg (by simp [hm])).trans (if_pos hv))

theorem localEvent_pends (hP : s.procs[p]? = some P) (hm : (lvr P).m = false)
    (hv : 16 ≤ (lvr P).vector.toNat) : localEvent p s lvr =
      .next (s.setProc p { P with irr := writeBit P.irr (lvr P).vector.toNat true }) :=
  (onProc_some _ hP).trans ((if_neg (by simp [hm])).trans (if_neg hv.not_gt))

end localEvent

/-- Settles O38: the three events differ in the register they go through. -/
theorem localEvents : Obligations.LocalEvents := by
  intro s p P mv l hP hevent
  obtain ⟨lvr, hmove, rfl⟩ : ∃ lvr : Proc → Lvr, runMove mv s = localEvent p s lvr ∧ l = lvr P := by
    obtain ⟨rfl, rfl⟩ | ⟨rfl, rfl⟩ | ⟨rfl, rfl⟩ := hevent
    · exact ⟨fun P => P.itv.eff, rfl, rfl⟩
    · exact ⟨fun P => P.pmv.eff, rfl, rfl⟩
    · exact ⟨fun P => P.cmcv.eff, rfl, rfl⟩
  rw [hmove]
  exact ⟨localEvent_masked hP, localEvent_reserved hP, fun hm hv =>
    ⟨_, localEvent_pends hP hm hv, getLsbD_writeBit_true P.irr (BitVec.isLt _)⟩⟩

/-! ### What a sample of a LINT pin does to its processor (R325 to R328) -/

theorem deliverLocal_undefined {dm : DMode} {v : Byte} {P : Proc}
    (hdm : dm ∈ [0b001#3, 0b011#3, 0b110#3]) : P.deliverLocal dm v = .error .undefinedDeliveryMode := by
  simp only [List.mem_cons, List.not_mem_nil, or_false] at hdm
  obtain rfl | rfl | rfl := hdm <;> rfl

section lintSample
variable {P : Proc} {L : Lrr} {was is free : Bool}

theorem Proc.sampleLint_masked (hm : L.m = true) : P.sampleLint L was is free = .ok P :=
  if_pos hm

theorem Proc.sampleLint_edge (hm : L.m = false) (hedge : L.tm = false ∨ L.dm = DMode.nmi) :
    P.sampleLint L was is free =
      if was = false ∧ is = true then P.deliverLocal L.dm L.vector else .ok P :=
  (if_neg (by simp [hm])).trans (if_pos hedge)

theorem Proc.sampleLint_level (hm : L.m = false) (htm : L.tm = true) (hdm : L.dm = DMode.int) :
    P.sampleLint L was is free =
      if was = false ∧ is = true then P.pendInt L.vector
      else if was = true ∧ is = false then .ok { P with irr := writeBit P.irr L.vector.toNat false }
      else if was = true ∧ is = true ∧ free = true then P.pendInt L.vector
      else .ok P :=
  (if_neg (by simp [hm])).trans ((if_neg (by rw [htm, hdm]; decide)).trans (if_pos hdm))

theorem Proc.sampleLint_levelOther (hm : L.m = false) (htm : L.tm = true) (hint : L.dm ≠ DMode.int)
    (hnmi : L.dm ≠ DMode.nmi) :
    P.sampleLint L was is free =
      if was = false ∧ is = true then .error (lintLevelRefusal L.dm) else .ok P :=
  (if_neg (by simp [hm])).trans ((if_neg (by simp [htm, hnmi])).trans (if_neg hint))

/-- A level pin of mode INT writes the pending bit of its vector alone: set on assertion, cleared on
deassertion, set or as before while active, as before while inactive (R326, R328; log 20). -/
theorem Proc.sampleLint_level_irr (hm : L.m = false) (htm : L.tm = true) (hdm : L.dm = DMode.int)
    (hv : 16 ≤ L.vector.toNat ∨ is = false) :
    ∃ irr, P.sampleLint L was is free = .ok { P with irr := irr } ∧
      (∀ j, j ≠ L.vector.toNat → irr.getLsbD j = P.irr.getLsbD j) ∧
      (was = false → is = true → irr.getLsbD L.vector.toNat = true) ∧
      (was = true → is = false → irr.getLsbD L.vector.toNat = false) ∧
      (was = true → is = true → P.irr.getLsbD L.vector.toNat = true →
        irr.getLsbD L.vector.toNat = true) ∧
      (was = false → is = false → irr.getLsbD L.vector.toNat = P.irr.getLsbD L.vector.toNat) := by
  have hother (b : Bool) (j : Nat) (hj : j ≠ L.vector.toNat) :
      (writeBit P.irr L.vector.toNat b).getLsbD j = P.irr.getLsbD j := by
    rw [getLsbD_writeBit, if_neg hj]
  have hset : (writeBit P.irr L.vector.toNat true).getLsbD L.vector.toNat = true := by
    rw [getLsbD_writeBit_true P.irr L.vector.isLt, if_pos rfl]
  have hclear : (writeBit P.irr L.vector.toNat false).getLsbD L.vector.toNat = false := by
    rw [getLsbD_writeBit, if_pos rfl, Bool.false_and]
  rw [Proc.sampleLint_level hm htm hdm]
  cases was <;> cases is
  case false.false => exact ⟨P.irr, by simp⟩
  case false.true => exact ⟨_, pendInt_valid (by simpa using hv), by simpa [hset] using hother true⟩
  case true.false => exact ⟨_, rfl, by simpa [hclear] using hother false⟩
  case true.true =>
    cases free
    case false => exact ⟨P.irr, by simp⟩
    case true => exact ⟨_, pendInt_valid (by simpa using hv), by simpa [hset] using hother true⟩

end lintSample

/-! ### The sample step of a LINT pin (R325 to R329) -/

section lintStep
variable {s : State} {p : Nat} {k : LintPin} {P P' : Proc} {r : Refusal}

/-- What the sample of pin `k` makes of `P`, its level not noted yet. -/
def Proc.sampledLint (P : Proc) (k : LintPin) (free : Bool) : Except Refusal Proc :=
  P.sampleLint (P.lrrEff k) (activeLevel (P.lrrEff k).ipp (P.lint k).prev)
    (activeLevel (P.lrrEff k).ipp (P.lint k).level) free

theorem sampleLint_absent (hP : s.procs[p]? = some P) (hlint : P.hasLint = false) :
    sampleLint p k s = .fault .noSuchPin :=
  (onProc_some _ hP).trans (if_pos hlint)

theorem sampleLint_ok (hP : s.procs[p]? = some P) (hlint : P.hasLint = true)
    (hsample : P.sampledLint k (Config.freeBool s.draws) = .ok P') :
    sampleLint p k s =
      .next (s.setProc p (P'.setLint k ⟨(P.lint k).level, (P.lint k).level⟩)).tick := by
  unfold Proc.sampledLint at hsample
  rw [sampleLint, onProc_some _ hP, if_neg (by simp [hlint])]
  simp only [hsample]

theorem sampleLint_error (hP : s.procs[p]? = some P) (hlint : P.hasLint = true)
    (hsample : P.sampledLint k (Config.freeBool s.draws) = .error r) :
    sampleLint p k s = .refused r := by
  unfold Proc.sampledLint at hsample
  rw [sampleLint, onProc_some _ hP, if_neg (by simp [hlint])]
  simp only [hsample]

end lintStep

/-- Settles O46: a masked or quiet pin leaves its processor alone; an edge delivers by the mode. -/
theorem sampleLintEdge : Obligations.SampleLintEdge := by
  rintro s p k P L x hP rfl rfl
  refine ⟨sampleLint_absent hP, fun hlint => ⟨fun hquiet => ?quiet, fun hm hedge hprev hlevel => ?edge⟩⟩
  case quiet =>
    refine sampleLint_ok hP hlint ?_
    by_cases hm : (P.lrrEff k).m = true
    · exact Proc.sampleLint_masked hm
    · obtain ⟨hedge, hnone⟩ := hquiet.resolve_left hm
      refine (Proc.sampleLint_edge (by simpa using hm) hedge).trans (if_neg ?_)
      rwa [inactiveLevel_iff, activeLevel_iff]
  case edge =>
    have hdelivers : P.sampledLint k (Config.freeBool s.draws) =
        P.deliverLocal (P.lrrEff k).dm (P.lrrEff k).vector :=
      (Proc.sampleLint_edge hm hedge).trans
        (if_pos ⟨inactiveLevel_iff.2 hprev, activeLevel_iff.2 hlevel⟩)
    refine ⟨fun hdm hv => ?int, fun hdm hv => ?intReserved, fun hdm hv => ?pmi,
      fun hdm hv => ?pmiReserved, fun hdm => ?nmi, fun hdm => ?init, fun hdm => ?extInt,
      fun hdm => sampleLint_error hP hlint (hdelivers.trans (deliverLocal_undefined hdm))⟩
    all_goals rw [hdm] at hdelivers
    case int =>
      exact ⟨_, sampleLint_ok hP hlint (hdelivers.trans (pendInt_valid hv)),
        getLsbD_writeBit_true P.irr (BitVec.isLt _)⟩
    case intReserved => exact sampleLint_error hP hlint (hdelivers.trans (pendInt_reserved hv))
    case pmi =>
      exact ⟨_, sampleLint_ok hP hlint (hdelivers.trans (pendPmi_valid hv)),
        getLsbD_writeBit_true P.pmiP (Nat.lt_succ_of_le hv)⟩
    case pmiReserved => exact sampleLint_error hP hlint (hdelivers.trans (pendPmi_reserved hv))
    case nmi => exact sampleLint_ok hP hlint (P' := P.pendNmi) hdelivers
    case init => exact sampleLint_ok hP hlint (P' := P.pendInit) hdelivers
    case extInt => exact sampleLint_ok hP hlint (P' := P.pendExtInt) hdelivers

/-- Settles O47: mode INT by what the sample does to its pending bit, the other modes by their refusal. -/
theorem sampleLintLevel : Obligations.SampleLintLevel := by
  rintro s p k P L x hP rfl rfl hlint hm htm
  refine ⟨fun hdm hv => ?pends, fun hdm hv hlevel => ⟨fun hprev => ?asserted, fun hprev => ?held⟩,
    fun hprev hlevel => ?refused, fun hdm hnone => ?quiet⟩
  case pends =>
    obtain ⟨irr, hsample, hbits⟩ := Proc.sampleLint_level_irr hm htm hdm
      (was := activeLevel (P.lrrEff k).ipp (P.lint k).prev) (free := Config.freeBool s.draws)
      (hv.imp_right inactiveLevel_iff.2)
    simp only [activeLevel_iff, inactiveLevel_iff] at hbits
    exact ⟨irr, sampleLint_ok hP hlint hsample, hbits⟩
  case asserted =>
    have hedge := And.intro (inactiveLevel_iff.2 hprev) (activeLevel_iff.2 hlevel)
    exact sampleLint_error hP hlint
      ((Proc.sampleLint_level hm htm hdm).trans ((if_pos hedge).trans (pendInt_reserved hv)))
  case held =>
    have hsample : P.sampledLint k (Config.freeBool s.draws) =
        if Config.freeBool s.draws = true then P.pendInt (P.lrrEff k).vector else .ok P := by
      rw [Proc.sampledLint, Proc.sampleLint_level hm htm hdm, activeLevel_iff.2 hprev,
        activeLevel_iff.2 hlevel]
      simp
    by_cases hfree : Config.freeBool s.draws = true
    · exact .inl (sampleLint_error hP hlint
        (hsample.trans ((if_pos hfree).trans (pendInt_reserved hv))))
    · exact .inr (sampleLint_ok hP hlint (hsample.trans (if_neg hfree)))
  case refused =>
    have hrefused {dm : DMode} (hdm : (P.lrrEff k).dm = dm) (hint : dm ≠ DMode.int)
        (hnmi : dm ≠ DMode.nmi) : sampleLint p k s = .refused (lintLevelRefusal dm) := by
      subst hdm
      exact sampleLint_error hP hlint ((Proc.sampleLint_levelOther hm htm hint hnmi).trans
        (if_pos ⟨inactiveLevel_iff.2 hprev, activeLevel_iff.2 hlevel⟩))
    refine ⟨fun hdm => hrefused hdm (by decide) (by decide),
      fun hdm => hrefused hdm (by decide) (by decide),
      fun hdm => hrefused hdm (by decide) (by decide), fun hdm => ?_⟩
    simp only [List.mem_cons, List.not_mem_nil, or_false] at hdm
    obtain hdm | hdm | hdm := hdm <;> exact hrefused hdm (by decide) (by decide)
  case quiet =>
    obtain ⟨hint, hnmi⟩ : (P.lrrEff k).dm ≠ DMode.int ∧ (P.lrrEff k).dm ≠ DMode.nmi := by
      simpa using hdm
    refine sampleLint_ok hP hlint ((Proc.sampleLint_levelOther hm htm hint hnmi).trans (if_neg ?_))
    rwa [inactiveLevel_iff, activeLevel_iff]

/-! ### Driven pins (R330 to R333; log 21, log 22) -/

theorem set_of_getElem? {α : Type} {l : List α} {i : Nat} {a : α} (h : l[i]? = some a) :
    l.set i a = l := by
  obtain ⟨hi, rfl⟩ := List.getElem?_eq_some_iff.1 h
  exact List.set_getElem_self hi

/-- A processor that is as before leaves the state as before. -/
theorem State.setProc_self {s : State} {p : Nat} {P : Proc} (hP : s.procs[p]? = some P) :
    s.setProc p P = s := by
  simp [State.setProc, set_of_getElem? hP]

theorem IoUnit.setEntry_self {U : IoUnit} {n : Nat} {E : Entry} (hE : U.entries[n]? = some E) :
    U.setEntry n E = U := by
  simp [IoUnit.setEntry, set_of_getElem? hE]

theorem State.setUnit_self {s : State} {u : Nat} {U : IoUnit} (hU : s.units[u]? = some U) :
    s.setUnit u U = s := by
  simp [State.setUnit, set_of_getElem? hU]

@[simp] theorem Proc.setLint_lint (P : Proc) (k : LintPin) : P.setLint k (P.lint k) = P := by
  cases k <;> rfl

section drive
variable {x y : Pin} {level : Bool} {r : Refusal}

theorem drive_same (h : x.level = level) : drive x level = .ok x :=
  if_pos h

theorem drive_changed (h : x.level = !level) (hsampled : x.prev = x.level) :
    drive x level = .ok ⟨level, x.prev⟩ :=
  (if_neg (by simp [h])).trans (if_pos hsampled.symm)

theorem drive_unsampled (h : x.level = !level) (hpulse : x.prev = level) :
    drive x level = .error .pulseTooShort :=
  (if_neg (by simp [h])).trans (if_neg (by simp [h, hpulse]))

variable {s : State} {p u n : Nat} {k : LintPin} {P : Proc} {U : IoUnit} {E : Entry}

theorem driveLint_ok (hP : s.procs[p]? = some P) (hlint : P.hasLint = true)
    (hdrive : drive (P.lint k) level = .ok y) :
    driveLint p k level s = .next (s.setProc p (P.setLint k y)) := by
  rw [driveLint, onProc_some _ hP, if_neg (by simp [hlint])]
  simp only [hdrive]

theorem driveLint_error (hP : s.procs[p]? = some P) (hlint : P.hasLint = true)
    (hdrive : drive (P.lint k) level = .error r) : driveLint p k level s = .refused r := by
  rw [driveLint, onProc_some _ hP, if_neg (by simp [hlint])]
  simp only [hdrive]

theorem drivePin_ok (hE : HasEntry s u n U E) (hdrive : drive E.pin level = .ok y) :
    drivePin u n level s = .next (s.setUnit u (U.setEntry n { E with pin := y })) := by
  rw [drivePin, onEntry_some _ hE.1 hE.2]
  simp only [hdrive]

theorem drivePin_error (hE : HasEntry s u n U E) (hdrive : drive E.pin level = .error r) :
    drivePin u n level s = .refused r := by
  rw [drivePin, onEntry_some _ hE.1 hE.2]
  simp only [hdrive]

end drive

section dedicated
variable {P : Proc} {k : DedicatedPin}

/-- The level of a dedicated pin (R35). -/
def Proc.dedicated (P : Proc) : DedicatedPin → Bool
  | .nmi => P.nmiPin
  | .pmi => P.pmiPin
  | .init => P.initPin

/-- Driving a pin high that is high changes nothing: it is no assertion. -/
theorem Proc.driveDedicated_high (h : P.dedicated k = true) : P.driveDedicated k true = P := by
  cases P
  cases k <;> simp_all [Proc.dedicated, Proc.driveDedicated]

end dedicated

theorem driveDedicated_some {s : State} {p : Nat} {P Q : Proc} {k : DedicatedPin} {level : Bool}
    (hP : s.procs[p]? = some P) (hdrive : P.driveDedicated k level = Q) :
    driveDedicated p k level s = .next (s.setProc p Q) :=
  hdrive ▸ onProc_some _ hP

/-- Settles O48: a dedicated pin by its level before and after, the others by whether they change and were
sampled since the last change. -/
theorem drivenPins : Obligations.DrivenPins := by
  refine ⟨fun s p P hP => ?dedicated, fun s p k level P x hP hx => ?lint,
    fun s u n level U E hE => ?entry⟩
  case dedicated =>
    have hhigh {k : DedicatedPin} (h : P.dedicated k = true) :
        driveDedicated p k true s = .next s := by
      rw [driveDedicated_some hP (Proc.driveDedicated_high h), State.setProc_self hP]
    refine ⟨fun hlow => driveDedicated_some hP ?_, fun hlow => driveDedicated_some hP ?_,
      fun hlow => ⟨writeBit P.pmiP 0 true, driveDedicated_some hP ?_,
        getLsbD_writeBit_true P.pmiP (by decide)⟩,
      hhigh (k := .nmi), hhigh (k := .init), hhigh (k := .pmi),
      driveDedicated_some hP ?_, driveDedicated_some hP ?_, driveDedicated_some hP ?_⟩
    all_goals simp [Proc.driveDedicated, *]
  case lint =>
    subst hx
    refine ⟨fun hlint => (onProc_some _ hP).trans (if_pos hlint), fun hlint hsame => ?_,
      fun hlint hnew hsampled => driveLint_ok hP hlint (drive_changed hnew hsampled),
      fun hlint hnew hpulse => driveLint_error hP hlint (drive_unsampled hnew hpulse)⟩
    refine (driveLint_ok hP hlint (drive_same hsame)).trans ?_
    rw [Proc.setLint_lint, State.setProc_self hP]
  case entry =>
    refine ⟨fun hsame => ?_, fun hnew hsampled => drivePin_ok hE (drive_changed hnew hsampled),
      fun hnew hpulse => drivePin_error hE (drive_unsampled hnew hpulse)⟩
    refine (drivePin_ok hE (drive_same hsame)).trans ?_
    rw [IoUnit.setEntry_self hE.2, State.setUnit_self hE.1]

/-! ### What may fire (R294) -/

/-- A check of R294 lets an entry fire if what it asks of the entry's mode holds. -/
theorem Entry.fireCheck_eq_none {E : Entry} : E.fireCheck = none ↔
    (E.dm = DMode.int ∨ E.dm = DMode.intHint → 16 ≤ E.vector.toNat) ∧
    (E.dm = DMode.extInt → E.t = false) ∧
    (E.dm = DMode.pmi → E.t = false ∧ E.vector.toNat ≤ 15) ∧
    (E.dm = DMode.init → E.t = false) := by
  unfold Entry.fireCheck
  split_ifs <;> simp_all

/-- Settles O39: each mode is the subject of at most one of the checks. -/
theorem firingCombinations : Obligations.FiringCombinations := by
  intro E
  simp only [Entry.fireCheck_eq_none]
  refine ⟨?int, fun hdm => ?extInt, fun hdm => ?pmi, fun hdm => ?init, fun hdm => ?nmi⟩
  case int => rintro (hdm | hdm) <;> simp [hdm, DMode.extInt, DMode.pmi, DMode.init]
  case extInt => simp [hdm, DMode.int, DMode.intHint, DMode.pmi, DMode.init]
  case pmi => simp [hdm, DMode.int, DMode.intHint, DMode.extInt, DMode.init]
  case init => simp [hdm, DMode.int, DMode.intHint, DMode.extInt, DMode.pmi]
  case nmi => simp [hdm, DMode.int, DMode.intHint, DMode.extInt, DMode.pmi, DMode.init]

/-! ### What a sample makes of an entry (R291 to R300) -/

section entrySample
variable {E : Entry} {free : Bool}

theorem Entry.fire_checked (h : E.fireCheck = none) : E.fire = .ok { E with s := true } := by
  simp only [Entry.fire, h]

theorem Entry.fire_refused {r : Refusal} (h : E.fireCheck = some r) : E.fire = .error r := by
  simp only [Entry.fire, h]

theorem Entry.teff_eq_false : E.teff = false ↔ E.t = false ∨ E.dm = DMode.nmi := by
  by_cases hnmi : E.dm = DMode.nmi <;> simp [Entry.teff, hnmi]

theorem Entry.sample_masked (hm : E.m = true) : E.sample free = .ok E :=
  if_pos hm

theorem Entry.sample_edge (hm : E.m = false) (hedge : E.t = false ∨ E.dm = DMode.nmi) :
    E.sample free =
      if E.pin.prev = E.p ∧ E.pin.level = (!E.p) ∧ E.s = false then E.fire else .ok E := by
  rw [Entry.sample, if_neg (by simp [hm]), if_pos (Entry.teff_eq_false.2 hedge)]
  simp only [Entry.wasActive, Entry.active, inactiveLevel_iff, activeLevel_iff]

theorem Entry.sample_level (hm : E.m = false) (ht : E.t = true) (hnmi : E.dm ≠ DMode.nmi) :
    E.sample free =
      if E.pin.level = (!E.p) ∧ E.await = false ∧ E.s = false then E.fire
      else if E.pin.prev = (!E.p) ∧ E.pin.level = E.p ∧ E.s = true then .ok { E with s := free }
      else .ok E := by
  rw [Entry.sample, if_neg (by simp [hm]), if_neg (by simp [Entry.teff_eq_false, ht, hnmi])]
  simp only [Entry.wasActive, Entry.active, inactiveLevel_iff, activeLevel_iff]

end entrySample

/-! ### The sample step of a pin (R291 to R300) -/

section entryStep
variable {s : State} {u n : Nat} {U : IoUnit} {E E' : Entry} {r : Refusal}

theorem samplePin_ok (hE : HasEntry s u n U E) (hsample : E.sample (Config.freeBool s.draws) = .ok E') :
    samplePin u n s =
      .next (s.withEntry u n U { E' with pin := ⟨E'.pin.level, E'.pin.level⟩ }) := by
  rw [samplePin, onEntry_some _ hE.1 hE.2]
  simp only [hsample]
  rfl

theorem samplePin_error (hE : HasEntry s u n U E)
    (hsample : E.sample (Config.freeBool s.draws) = .error r) : samplePin u n s = .refused r := by
  rw [samplePin, onEntry_some _ hE.1 hE.2]
  simp only [hsample]

/-- An entry that fires has its delivery status set, if the check of R294 lets it. -/
theorem samplePin_fires (hE : HasEntry s u n U E)
    (hsample : E.sample (Config.freeBool s.draws) = E.fire) :
    (E.fireCheck = none → samplePin u n s =
      .next (s.withEntry u n U { E with s := true, pin := ⟨E.pin.level, E.pin.level⟩ })) ∧
    (∀ r, E.fireCheck = some r → samplePin u n s = .refused r) :=
  ⟨fun hcheck => samplePin_ok hE (hsample.trans (Entry.fire_checked hcheck)),
    fun _ hcheck => samplePin_error hE (hsample.trans (Entry.fire_refused hcheck))⟩

end entryStep

/-- Settles O40: the sample of an edge entry by whether it shows a new edge. -/
theorem sampleEdgePin : Obligations.SampleEdgePin := by
  intro s u n U E hE
  refine ⟨fun hquiet => samplePin_ok hE ?quiet, fun hm hedge hprev hlevel hs =>
    samplePin_fires hE ((Entry.sample_edge hm hedge).trans (if_pos ⟨hprev, hlevel, hs⟩))⟩
  case quiet =>
    by_cases hm : E.m = true
    · exact Entry.sample_masked hm
    · obtain ⟨hedge, hnone⟩ := hquiet.resolve_left hm
      exact (Entry.sample_edge (by simpa using hm) hedge).trans (if_neg hnone)

/-- Settles O41: the sample of a level entry by its pin and by what is awaited or unsent. -/
theorem sampleLevelPin : Obligations.SampleLevelPin := by
  intro s u n U E hE hm ht hnmi
  have hsample := Entry.sample_level (free := Config.freeBool s.draws) hm ht hnmi
  refine ⟨fun hactive hawait hs =>
      samplePin_fires hE (hsample.trans (if_pos ⟨hactive, hawait, hs⟩)),
    fun hactive hbusy => samplePin_ok hE (hsample.trans ?busy),
    fun hinactive hprev hs =>
      ⟨Config.freeBool s.draws, samplePin_ok (E' := { E with s := Config.freeBool s.draws }) hE
        (hsample.trans ?withdrawn)⟩,
    fun hinactive hkept => samplePin_ok hE (hsample.trans ?kept)⟩
  case busy =>
    rw [if_neg (by obtain h | h := hbusy <;> simp [h]), if_neg (by simp [hactive])]
  case withdrawn => rw [if_neg (by simp [hinactive]), if_pos ⟨hprev, hinactive, hs⟩]
  case kept =>
    rw [if_neg (by simp [hinactive]), if_neg fun h => hkept ⟨h.1, h.2.2⟩]

/-! ### The send (R296, R297) -/

theorem Entry.sent_eq (E : Entry) : E.sent =
    { E with s := false, await := E.await || (E.t && decide (E.dm ≠ DMode.nmi)) } := by
  by_cases hnmi : E.dm = DMode.nmi <;> cases ht : E.t <;> simp [Entry.sent, Entry.teff, hnmi, ht]

/-- Settles O42: by whether the entry may send. -/
theorem sendStep : Obligations.SendStep := by
  intro s u n U E hE
  refine ⟨fun hs hm => ?sends, fun hno => (onEntry_some _ hE.1 hE.2).trans (if_neg ?blocked)⟩
  case sends =>
    refine (onEntry_some _ hE.1 hE.2).trans ((if_pos ⟨hs, hm⟩).trans ?_)
    rw [Entry.sent_eq]
    rfl
  case blocked =>
    rintro ⟨hs, hm⟩
    obtain h | h := hno <;> simp_all

end Sys2Proof.Machine
end

section
/-! SUPPORT. The interrupt logic of `60_exceptions.md`: when a vector is unmasked and which one is reported
(R348 to R355, R371), and the obligations of the interruptions (R340, R343, R358 to R361, R382, R383). -/

namespace Sys2Proof.Machine

/-! ### Priority (R349) -/

theorem prio_of_le {v : Nat} (hlow : 16 ≤ v) : prio v = v := by
  rw [prio, if_neg (by omega), if_neg (by omega)]

/-- No vector outranks NMI (R349). -/
theorem prio_le_nmi {v : Nat} (hv : reportable v) : prio v ≤ prio 2 := by
  unfold reportable at hv
  unfold prio
  split_ifs <;> omega

/-- NMI and ExtINT alone do not rank below ExtINT (R349). -/
theorem prio_lt_extInt_iff {v : Nat} (hv : reportable v) : prio v < prio 0 ↔ v ≠ 2 ∧ v ≠ 0 := by
  unfold reportable at hv
  rw [show prio 0 = 256 from rfl, prio]
  split_ifs <;> omega

/-- Below a vector `v` from 16 up are the vectors of smaller number (R349). -/
theorem prio_lt_vector_iff {t v : Nat} (hlow : 16 ≤ v) (hhigh : v < 256) :
    prio t < prio v ↔ t ≠ 2 ∧ t ≠ 0 ∧ t < v := by
  rw [prio_of_le hlow, prio]
  split_ifs <;> omega

theorem topVector_eq_some_iff {f : Nat → Bool} {v : Nat} : topVector f = some v ↔
    reportable v ∧ f v = true ∧ ∀ w, reportable w → f w = true → prio w ≤ prio v := by
  refine ⟨topVector_eq_some, fun ⟨hv, hfv, hmax⟩ => ?_⟩
  cases htop : topVector f with
  | none => simp [topVector_eq_none.1 htop v hv] at hfv
  | some w =>
    obtain ⟨hw, hfw, hmax'⟩ := topVector_eq_some htop
    exact congrArg some (prio_injective hw hv (le_antisymm (hmax w hw hfw) (hmax' v hv hfv)))

/-! ### Masking (R350 to R354) -/

section masking
variable {P : Proc} {v w : Nat}

/-- A vector is not masked by service if it outranks everything in service (R353). -/
theorem Proc.aboveService_iff : P.aboveService v = true ↔
    ∀ t, reportable t → P.insvc.getLsbD t = true → prio t < prio v := by
  unfold Proc.aboveService
  cases htop : P.topInsvc with
  | none =>
    have hnone := topVector_eq_none.1 htop
    exact iff_of_true rfl fun t ht hin => by simp [hnone t ht] at hin
  | some u =>
    obtain ⟨hu, huin, hmax⟩ := topVector_eq_some htop
    exact decide_eq_true_iff.trans
      ⟨fun hlt t ht hin => (hmax t ht hin).trans_lt hlt, fun habove => habove u hu huin⟩

theorem Proc.aboveService_nmi : P.aboveService 2 = true ↔ P.insvc.getLsbD 2 = false := by
  rw [Proc.aboveService_iff, ← Bool.not_eq_true]
  refine ⟨fun habove hin => lt_irrefl _ (habove 2 (.inl rfl) hin), fun hout t ht hin => ?_⟩
  exact lt_of_le_of_ne (prio_le_nmi ht) fun heq => hout (prio_injective ht (.inl rfl) heq ▸ hin)

theorem Proc.aboveService_extInt : P.aboveService 0 = true ↔
    P.insvc.getLsbD 2 = false ∧ P.insvc.getLsbD 0 = false := by
  simp only [Proc.aboveService_iff, ← Bool.not_eq_true]
  constructor
  · exact fun habove => ⟨fun hin => absurd (habove 2 (.inl rfl) hin) (by decide),
      fun hin => lt_irrefl _ (habove 0 (.inr (.inl rfl)) hin)⟩
  · rintro ⟨hnmi, hext⟩ t ht hin
    exact (prio_lt_extInt_iff ht).2 ⟨fun h => hnmi (h ▸ hin), fun h => hext (h ▸ hin)⟩

theorem Proc.aboveService_vector (hlow : 16 ≤ v) (hhigh : v < 256) : P.aboveService v = true ↔
    P.insvc.getLsbD 2 = false ∧ P.insvc.getLsbD 0 = false ∧
      ∀ t, v ≤ t → t < 256 → P.insvc.getLsbD t = false := by
  simp only [Proc.aboveService_iff, ← Bool.not_eq_true]
  constructor
  · intro habove
    have hbelow (t : Nat) (ht : reportable t) (hin : P.insvc.getLsbD t = true) :=
      (prio_lt_vector_iff hlow hhigh).1 (habove t ht hin)
    exact ⟨fun hin => (hbelow 2 (.inl rfl) hin).1 rfl,
      fun hin => (hbelow 0 (.inr (.inl rfl)) hin).2.1 rfl,
      fun t hle hlt hin =>
        absurd (hbelow t (.inr (.inr ⟨hlow.trans hle, hlt⟩)) hin).2.2 (not_lt.2 hle)⟩
  · rintro ⟨hnmi, hext, habove⟩ t ht hin
    exact (prio_lt_vector_iff hlow hhigh).2 ⟨fun h => hnmi (h ▸ hin), fun h => hext (h ▸ hin),
      not_le.1 fun hle => habove t hle (BitVec.lt_of_getLsbD hin) hin⟩

theorem Proc.unmasked_nmi : P.unmasked 2 = P.aboveService 2 := rfl

theorem Proc.unmasked_extInt :
    P.unmasked 0 = true ↔ P.tpr.eff.mmi = false ∧ P.aboveService 0 = true := by
  simp [Proc.unmasked]

/-- A vector from 16 up is unmasked if its class is above `mic` (R348, R350). -/
theorem Proc.unmasked_vector (hlow : 16 ≤ v) (hhigh : v < 256) : P.unmasked v = true ↔
    P.tpr.eff.mmi = false ∧ (P.tpr.eff.mic.toNat + 1) * 16 ≤ v ∧ P.aboveService v = true := by
  have h2 : v ≠ 2 := by omega
  have h0 : v ≠ 0 := by omega
  have hclass : P.tpr.eff.mic.toNat < classOf v ↔ (P.tpr.eff.mic.toNat + 1) * 16 ≤ v := by
    unfold classOf
    omega
  simp [Proc.unmasked, h2, h0, hclass, and_assoc]

/-- The three cases in one: what masks a vector is a bound on its priority. No `mic` masks NMI or ExtINT,
whose priorities are above every `(mic + 1) * 16` (R350 to R354). -/
theorem Proc.unmasked_iff (hv : reportable v) : P.unmasked v = true ↔
    (P.tpr.eff.mmi = false ∨ prio 2 ≤ prio v) ∧ (P.tpr.eff.mic.toNat + 1) * 16 ≤ prio v ∧
      P.aboveService v = true := by
  have hmic : (P.tpr.eff.mic.toNat + 1) * 16 ≤ 256 := by omega
  rcases hv with rfl | rfl | ⟨hlow, hhigh⟩
  · simp [Proc.unmasked_nmi, hmic.trans (show 256 ≤ prio 2 by decide)]
  · simp [Proc.unmasked_extInt, show prio 2 = 257 from rfl, show prio 0 = 256 from rfl, hmic]
  · have hnmi : ¬ prio 2 ≤ v := by rw [show prio 2 = 257 from rfl]; omega
    simp [Proc.unmasked_vector hlow hhigh, prio_of_le hlow, hnmi]

/-- What outranks an unmasked vector is unmasked: the fact behind the second reading of R355. -/
theorem Proc.unmasked_mono (hv : reportable v) (hw : reportable w) (hle : prio v ≤ prio w)
    (h : P.unmasked v = true) : P.unmasked w = true := by
  obtain ⟨hmmi, hmic, habove⟩ := (Proc.unmasked_iff hv).1 h
  exact (Proc.unmasked_iff hw).2 ⟨hmmi.imp_right hle.trans', hmic.trans hle,
    Proc.aboveService_iff.2 fun t ht hin => (Proc.aboveService_iff.1 habove t ht hin).trans_le hle⟩

end masking

/-- Settles O36: each bound on the priority, for the vectors that keep it. -/
theorem masking : Obligations.Masking := fun P =>
  ⟨fun v hlow hhigh => by
      rw [Proc.unmasked_vector hlow hhigh, Proc.aboveService_vector hlow hhigh],
    by rw [Proc.unmasked_extInt, Proc.aboveService_extInt],
    by rw [Proc.unmasked_nmi, Proc.aboveService_nmi]⟩

/-! ### What is reported (R355, R371) -/

theorem Proc.hpu_eq_none_iff {P : Proc} : P.hpu = none ↔
    ∀ w, reportable w → P.pending w = true → P.unmasked w = false := by
  simp [Proc.hpu, topVector_eq_none]

theorem Proc.hpu_eq_some_iff {P : Proc} {v : Nat} : P.hpu = some v ↔
    reportable v ∧ P.pending v = true ∧ P.unmasked v = true ∧
      ∀ w, reportable w → P.pending w = true → P.unmasked w = true → prio w ≤ prio v := by
  simp [Proc.hpu, topVector_eq_some_iff, and_assoc]

/-- Settles O34: for the second reading, if the first of the pending vectors is masked, so are those that
it outranks. -/
theorem highestPendingUnmasked : Obligations.HighestPendingUnmasked := by
  refine fun P => ⟨Proc.hpu_eq_none_iff, fun v => Proc.hpu_eq_some_iff, fun v hv hpend hmax => ?_⟩
  split_ifs with hopen
  · exact Proc.hpu_eq_some_iff.2 ⟨hv, hpend, hopen, fun w hw hwpend _ => hmax w hw hwpend⟩
  · exact Proc.hpu_eq_none_iff.2 fun w hw hwpend =>
      Bool.eq_false_iff.2 fun hwopen => hopen (Proc.unmasked_mono hw hv (hmax w hw hwpend) hwopen)

/-- Settles O35: what is reported is unmasked, and so not masked by service. -/
theorem reportedOutranksService : Obligations.ReportedOutranksService := by
  intro P v t hv ht hin
  obtain ⟨hreport, -, hopen, -⟩ := hpu_some hv
  obtain ⟨-, -, habove⟩ := (Proc.unmasked_iff hreport).1 hopen
  exact Proc.aboveService_iff.1 habove t ht hin

/-! ### A flow that has ended (R343, R383) -/

/-- An operation of a software agent acts as its processor, and so only while the flow of that runs. -/
theorem exec_eq_software {i : Instr} {p : Nat} (hissuer : i.issuer = some p) (s : State) :
    ∃ k, exec i s = software p s k := by
  cases i with
  | msgInt | msgPmi | msgNmi | msgInit | msgExtint | msgUndef001 | msgUndef011 | msgUndef110 =>
    cases hissuer
  | _ => cases hissuer; exact ⟨_, rfl⟩

/-- Settles O33: every operation that is issued is one of the software agent. -/
theorem endedFlowRunsNothing : Obligations.EndedFlowRunsNothing := by
  intro i s p P hissuer hP hended
  obtain ⟨k, hexec⟩ := exec_eq_software hissuer s
  rw [hexec, software_ended k hP hended]

/-! ### Reserved bits (R340) -/

section reserved
variable {s : State} {p j : Nat} {P : Proc} {w reserved : Word64}

theorem writeReg_reserved (f : Proc → Proc) (hrun : Running s p P) (hw : w.getLsbD j = true)
    (hmask : reserved.getLsbD j = true) :
    writeReg p s w reserved f = .next (s.setProc p { P with flow := .faulted .generalException }) := by
  have hne : w &&& reserved ≠ 0 := fun hzero => by
    have hbit : (w &&& reserved).getLsbD j = true := by rw [BitVec.getLsbD_and, hw, hmask]; rfl
    simp [hzero] at hbit
  exact (software_running _ hrun).trans (if_neg hne)

theorem getLsbD_lidReserved : ∀ j < 16, lidReserved.getLsbD j = true := by decide

theorem getLsbD_tprReserved : ∀ j < 64, (8 ≤ j ∧ j < 16) ∨ 17 ≤ j → tprReserved.getLsbD j = true := by
  decide

end reserved

/-- Settles O11: by the masks of the two layouts. -/
theorem reservedBitsRaise : Obligations.ReservedBitsRaise := by
  intro s p j P w hrun hw
  refine ⟨fun hlow => writeReg_reserved _ hrun hw (getLsbD_lidReserved j hlow), fun hj => ?_⟩
  have htpr : tprReserved.getLsbD j = true := getLsbD_tprReserved j (by omega) (by omega)
  have hlvr : lvrReserved.getLsbD j = true := lvrReserved_eq ▸ htpr
  exact ⟨writeReg_reserved _ hrun hw htpr, writeReg_reserved _ hrun hw hlvr,
    writeReg_reserved _ hrun hw hlvr, writeReg_reserved _ hrun hw hlvr⟩

/-! ### Interruptions taken (R358 to R361, R382, R383) -/

/-- Settles O31: by whether there is something to accept, and whether collection is on. -/
theorem acceptInterrupt : Obligations.AcceptInterrupt := by
  intro s p P hP
  refine ⟨fun hrun hi hhpu hic => ?accepted, fun hrun hi hhpu hic => ?refused, fun hno => ?none⟩
  case accepted => exact (onProc_some _ hP).trans ((if_pos ⟨hrun, hi, hhpu⟩).trans (if_pos hic))
  case refused =>
    exact (onProc_some _ hP).trans ((if_pos ⟨hrun, hi, hhpu⟩).trans (if_neg (by simp [hic])))
  case none =>
    refine (onProc_some _ hP).trans (if_neg ?_)
    rintro ⟨hrun, hi, hhpu⟩
    obtain h | h | h := hno
    · exact h hrun
    · simp [h] at hi
    · exact hhpu h

/-- Settles O32: both wait for nothing but their own pending bit. -/
theorem takePmiAndInit : Obligations.TakePmiAndInit := by
  rintro s p P ⟨hP, hrun⟩
  refine ⟨fun v hv => ⟨writeBit P.pmiP v.toNat false, ?_, fun j => ?_⟩, fun hinit => ?_⟩
  · exact (onProc_some _ hP).trans (if_pos ⟨hrun, hv⟩)
  · simp [getLsbD_writeBit]
  · exact (onProc_some _ hP).trans (if_pos ⟨hrun, hinit⟩)

end Sys2Proof.Machine
end
